-- ==== Sys2Proof/Word.lean ====
section
/-!
DEFINITION. The words of the block (00_scope.md R5, R6) and the fixed-length buffer that the
reference and sample buffers of 10_state.md R22 to R26 are made of.
-/

namespace Sys2Proof

/-- A command word or a register word: 32 bits (10_state.md R27, 30_encoding.md R48). -/
abbrev Word := BitVec 32

/-- A byte of bitstream memory (20_memory.md R34). -/
abbrev Byte := BitVec 8

/-- An entry of D, RES, PRED or OUT: 16 bits, read as signed or unsigned by its buffer's rule
(10_state.md R22 to R25). -/
abbrev Entry := BitVec 16

/-- A register index of the register space of 0x2000 registers (10_state.md R27). -/
abbrev RegIndex := BitVec 13

/-- A buffer of exactly `n` entries of plain data. -/
structure Buffer (α : Type) (n : Nat) where
  /-- The entries, entry 0 first. -/
  cells : List α
  /-- There are exactly `n` of them. -/
  size : cells.length = n
deriving DecidableEq, Repr

/-- Entry `i`; a default value for `i` outside the buffer (no rule reads there). -/
def Buffer.get {α : Type} [Inhabited α] {n : Nat} (b : Buffer α n) (i : Nat) : α :=
  b.cells.getD i default

/-- The buffer whose entry `i` is `f i`. -/
def Buffer.tabulate {α : Type} (n : Nat) (f : Nat → α) : Buffer α n :=
  ⟨(List.range n).map f, by simp⟩

/-- The buffer with entry `i` replaced; unchanged for `i` outside it. -/
def Buffer.set {α : Type} {n : Nat} (b : Buffer α n) (i : Nat) (v : α) : Buffer α n :=
  ⟨b.cells.set i v, by simp [b.size]⟩

end Sys2Proof
end

