-- ==== Sys2Proof/Machine/Arith.lean ====
section
/-!
DEFINITION. The arithmetic primitives of 00_scope.md R7: shifts of unbounded integers, Clip3,
floor_log2, sums, and the narrowing of an integer to a stored entry.
-/

namespace Sys2Proof.Machine

/-- `Clip3(lo, hi, v)` (00_scope.md R7). -/
def clip3 (lo hi v : Int) : Int := if v < lo then lo else if hi < v then hi else v

/-- `a >> n = floor(a / 2^n)` for every integer `a` (00_scope.md R7). -/
def asr (a : Int) (n : Nat) : Int := a / (2 ^ n : Nat)

/-- `a << n = a * 2^n` (00_scope.md R7). -/
def shl (a : Int) (n : Nat) : Int := a * (2 ^ n : Nat)

/-- `a & 31` on a two's complement number of unbounded width (00_scope.md R7). -/
def and31 (a : Int) : Int := a % 32

/-- `floor_log2(v)` for `v ≥ 1`: the index of the highest set bit (00_scope.md R7). -/
def floorLog2 (v : Nat) : Nat := Nat.log2 v

/-- The sum of `f j` for `j = 0..n-1`. -/
def sumTo : Nat → (Nat → Int) → Int
  | 0, _ => 0
  | n + 1, f => sumTo n f + f n

/-- Add `1 << (n-1)`, then shift right by `n`: the rounding shift of 41_inverse_transform.md
R88. -/
def roundShift (a : Int) (n : Nat) : Int := asr (a + shl 1 (n - 1)) n

/-- An integer stored in a 16-bit entry: its low 16 bits. Every rule that stores one proves that
it fits (00_scope.md R11). -/
def entryOf (a : Int) : Entry := BitVec.ofInt 16 a

end Sys2Proof.Machine
end

