-- ==== Sys2Proof/Config.lean ====
section
/-!
DEFINITION. What the spec leaves free: the contents of the block's five buffers after a hardware
reset (10_state.md R31, 70_reset_and_hazards.md R143, 93_implementation_defined.md U1: "any value:
each entry not yet written is a free input. Never assume 0"). Each constant has no body, so
nothing can be proved of its values. The first argument is the number of the reset (0 for the one
that makes `State.reset`), the second the entry. DESIGN CHOICE, log entry 2.

The parameters of 00_scope.md R5 that have a default value stand in Machine/Params.lean.
-/

namespace Sys2Proof.Config

/-- Entry `i` of D (index y*32 + x) after hardware reset number `k`. -/
opaque powerOnD (k i : Nat) : Entry

/-- Entry `i` of RES (index y*32 + x) after hardware reset number `k`. -/
opaque powerOnRes (k i : Nat) : Entry

/-- Entry `i` of PRED (index y*32 + x) after hardware reset number `k`. -/
opaque powerOnPred (k i : Nat) : Entry

/-- Entry `i` of OUT (index y*32 + x) after hardware reset number `k`. -/
opaque powerOnOut (k i : Nat) : Entry

/-- `val` of REF[i] after hardware reset number `k`. -/
opaque powerOnRefVal (k i : Nat) : Entry

/-- `avail` of REF[i] after hardware reset number `k`. -/
opaque powerOnRefAvail (k i : Nat) : Bool

end Sys2Proof.Config
end

