-- ==== Sys2Proof/Machine/State.lean ====
section
/-!
DEFINITION. The state of the block, every piece of it that 10_state.md R13 lists, with the
bitstream memory it reads and the pending moves of its environment; the reasons a step can stop;
and the state after a hardware reset (10_state.md R30, R31; 70_reset_and_hazards.md R143).
-/

namespace Sys2Proof.Machine

/-- Why a step stops with a fault. The block's own faults (CoderUnderflow, IllegalCommand,
RdNotInit, BadSnapshot) are NOT among these: each is a defined step to a defined state
(60_exceptions.md R125), see `FaultCode`. -/
inductive Fault where
  /-- Stuck: a renormalisation of an interval `rng < 1`, on which `floor_log2` is not defined
  (00_scope.md R7, 60_exceptions.md R128). Raised by the decision of RD_DECIDE, RD_DECIDE_EQ,
  RD_BITS and RD_SIGNED in a state with RANGE below 2, which no run reaches (40_range_decoder.md
  R79). Safe. DEDUCED, log entry 11. -/
  | renormUndefined
deriving DecidableEq, Repr

/-- Why a step is refused. -/
inductive Refusal where
  /-- The instruction has no meaning in this model yet. No arm of `exec` answers it. Safe. -/
  | notModelled (mnemonic : String)
deriving DecidableEq, Repr

/-- The block's four faults, recorded in STATUS.FAULT (60_exceptions.md R126). -/
inductive FaultCode where
  | coderUnderflow
  | illegalCommand
  | rdNotInit
  | badSnapshot
deriving DecidableEq, Repr

/-- An entry of REF: the pair (avail, val) of 10_state.md R26. -/
structure RefEntry where
  avail : Bool
  val : Entry
deriving DecidableEq, Repr, Inhabited

/-- D, RES, PRED or OUT: 32 columns by 32 rows, entry (x, y) at y*32 + x (10_state.md R22). -/
abbrev Block := Buffer Entry 1024

/-- REF[0] to REF[128] (10_state.md R26). -/
abbrev RefLine := Buffer RefEntry 129

/-- A move of the block's environment. -/
inductive BusEvent where
  /-- The host writes the register at `index` (20_memory.md R35, R42). -/
  | write (index : RegIndex) (data : Word)
  /-- The host reads the register at `index` (20_memory.md R35, R42). -/
  | read (index : RegIndex)
  /-- Another master writes one byte of the bitstream memory (20_memory.md R46). Log entry 7. -/
  | memWrite (addr : BitVec 32) (byte : Byte)
  /-- The hardware reset input is asserted and released (70_reset_and_hazards.md R142).
  Log entry 6. -/
  | hardReset
deriving DecidableEq, Repr

/-- The state. -/
structure State where
  /-- VALUE, 10_state.md R15 -/
  value : BitVec 32
  /-- RANGE, 10_state.md R15 -/
  range : BitVec 8
  /-- COUNT, two's complement, 10_state.md R15 -/
  count : BitVec 4
  /-- BS_BASE, 10_state.md R20 -/
  bsBase : BitVec 32
  /-- BS_LEN, 10_state.md R20 -/
  bsLen : BitVec 32
  /-- BS_POS, 10_state.md R20 -/
  bsPos : BitVec 32
  /-- SNAP_VALUE, 10_state.md R21 -/
  snapValue : BitVec 32
  /-- SNAP_RANGE, 10_state.md R21 -/
  snapRange : BitVec 8
  /-- SNAP_COUNT, two's complement, 10_state.md R21 -/
  snapCount : BitVec 4
  /-- RESULT, 10_state.md R16 -/
  result : BitVec 32
  /-- STATUS.FAULT, 10_state.md R17 -/
  fault : BitVec 8
  /-- STATUS.RD_VALID, 10_state.md R17 -/
  rdValid : Bool
  /-- STATUS.IP_FILT, 10_state.md R17 -/
  ipFilt : BitVec 2
  /-- FAULT_INFO, 10_state.md R18 -/
  faultInfo : BitVec 32
  /-- CFG.BD_Y, 10_state.md R19 -/
  bdY : BitVec 4
  /-- CFG.BD_C, 10_state.md R19 -/
  bdC : BitVec 4
  /-- CFG.STRONG, 10_state.md R19 -/
  strong : Bool
  /-- The coefficient buffer D, signed entries, 10_state.md R22 -/
  d : Block
  /-- The residual buffer RES, signed entries, 10_state.md R23 -/
  res : Block
  /-- The prediction buffer PRED, unsigned entries, 10_state.md R24 -/
  pred : Block
  /-- The reconstruction buffer OUT, unsigned entries, 10_state.md R25 -/
  out : Block
  /-- The reference sample buffer REF, 10_state.md R26 -/
  ref : RefLine
  /-- The bitstream memory, an input of the block (20_memory.md R37): the bytes that differ from
  what an unlisted address reads as, addresses rising (Machine/Memory.lean). -/
  mem : List Host.Cell
  /-- The MODEL's own: the environment's pending moves, the next one first. Log entry 3. -/
  bus : List BusEvent
  /-- The MODEL's own: the word the last host read returned. Log entry 4. -/
  hostData : Word
  /-- The MODEL's own: the number of hardware resets since `State.reset`. Log entry 5. -/
  resets : Nat
deriving DecidableEq, Repr

/-- The state after hardware reset (10_state.md R30, R31; 70_reset_and_hazards.md R143): the
values of R143's table, the buffers unspecified (free values, log entry 2), nothing listed in
memory (log entry 1) and no move pending (log entry 3). -/
def State.reset : State where
  value := 0#32
  range := 255#8
  count := -8#4
  bsBase := 0#32
  bsLen := 0#32
  bsPos := 0#32
  snapValue := 0#32
  snapRange := 0#8
  snapCount := 0#4
  result := 0#32
  fault := 0#8
  rdValid := false
  ipFilt := 0#2
  faultInfo := 0#32
  bdY := 8#4
  bdC := 8#4
  strong := false
  d := .tabulate 1024 (Config.powerOnD 0)
  res := .tabulate 1024 (Config.powerOnRes 0)
  pred := .tabulate 1024 (Config.powerOnPred 0)
  out := .tabulate 1024 (Config.powerOnOut 0)
  ref := .tabulate 129 fun i => ⟨Config.powerOnRefAvail 0 i, Config.powerOnRefVal 0 i⟩
  mem := []
  bus := []
  hostData := 0#32
  resets := 0

end Sys2Proof.Machine
end

