-- ==== Sys2Proof/Machine/Buffers.lean ====
section
/-!
DEFINITION. Reading and writing the block buffers by coordinates (00_scope.md R9, 10_state.md R22
to R25) and the reference line by the sample names of 42_intra_prediction.md R99, and the named
updates of the state's buffers.
-/

namespace Sys2Proof.Machine

/-- Entry (x, y) of a block buffer, column first (00_scope.md R9, 10_state.md R22). -/
def Block.at (b : Block) (x y : Nat) : Entry := b.get (y * 32 + x)

/-- Entry (x, y) of D or RES: signed (10_state.md R22, R23). -/
def Block.signed (b : Block) (x y : Nat) : Int := (b.at x y).toInt

/-- Entry (x, y) of PRED or OUT: unsigned (10_state.md R24, R25). -/
def Block.unsigned (b : Block) (x y : Nat) : Int := ((b.at x y).toNat : Int)

/-- The buffer with entries (x, y), `0 ≤ x, y < n`, set to `f x y` and every other entry kept
(41_inverse_transform.md R83). -/
def Block.corner (b : Block) (n : Nat) (f : Nat → Nat → Entry) : Block :=
  .tabulate 1024 fun i =>
    if i % 32 < n ∧ i / 32 < n then f (i % 32) (i / 32) else b.get i

/-- A temporary `n` by `n` array of integers, entry (x, y) at `y*n + x`. -/
abbrev Grid (n : Nat) := Buffer Int (n * n)

/-- The grid whose entry (x, y) is `f x y`. -/
def gridOf (n : Nat) (f : Nat → Nat → Int) : Grid n :=
  .tabulate (n * n) fun i => f (i % n) (i / n)

/-- Entry (x, y) of a grid. -/
def gridAt {n : Nat} (g : Grid n) (x y : Nat) : Int := g.get (y * n + x)

/-- `REF[i].val` as an integer; only `0 ≤ i ≤ 128` is read. -/
def RefLine.sample (r : RefLine) (i : Int) : Int := ((r.get i.toNat).val.toNat : Int)

/-- `p[-1][y] = REF[2N-1-y].val`, `y` from -1 to 2N-1 (42_intra_prediction.md R99). -/
def RefLine.left (r : RefLine) (n : Nat) (y : Int) : Int := r.sample (2 * n - 1 - y)

/-- `p[x][-1] = REF[2N+1+x].val`, `x` from -1 to 2N-1 (42_intra_prediction.md R99); `x = -1` is
the corner. -/
def RefLine.top (r : RefLine) (n : Nat) (x : Int) : Int := r.sample (2 * n + 1 + x)

/-- The line with `val` of REF[i] set to `f i` where `p i`, and everything else kept. -/
def RefLine.mapVal (r : RefLine) (p : Nat → Bool) (f : Nat → Int) : RefLine :=
  .tabulate 129 fun i => if p i then ⟨(r.get i).avail, entryOf (f i)⟩ else r.get i

/-- D replaced. -/
def State.withD (s : State) (b : Block) : State := { s with d := b }

/-- RES replaced. -/
def State.withRes (s : State) (b : Block) : State := { s with res := b }

/-- PRED replaced. -/
def State.withPred (s : State) (b : Block) : State := { s with pred := b }

/-- OUT replaced. -/
def State.withOut (s : State) (b : Block) : State := { s with out := b }

/-- REF replaced. -/
def State.withRef (s : State) (r : RefLine) : State := { s with ref := r }

end Sys2Proof.Machine
end

