-- ==== Sys2Proof/Syntax.lean ====
section
/-!
DEFINITION. The commands: one constructor per row of spec/opcode_table.json
(30_encoding.md R56), each with the operand fields its format gives it (R49 to R55).
-/

namespace Sys2Proof

/-- The block sizes: `log2n` in 2..5 (30_encoding.md R55, 00_scope.md R9). -/
inductive BlockSize where
  /-- 4 by 4, log2n = 2 -/
  | n4
  /-- 8 by 8, log2n = 3 -/
  | n8
  /-- 16 by 16, log2n = 4 -/
  | n16
  /-- 32 by 32, log2n = 5 -/
  | n32
deriving DecidableEq, Repr

/-- `log2n` (30_encoding.md R55). -/
def BlockSize.log2 : BlockSize → Nat
  | .n4 => 2
  | .n8 => 3
  | .n16 => 4
  | .n32 => 5

/-- `N = 1 << log2n` (00_scope.md R9). -/
def BlockSize.n (z : BlockSize) : Nat := 1 <<< z.log2

/-- The colour component operand `c`: 0 luma, 1 chroma (30_encoding.md R55). -/
inductive Component where
  | luma
  | chroma
deriving DecidableEq, Repr

/-- A command. -/
inductive Instr where
  /-- NOP, 43_system_commands.md R121 -/
  | nop
  /-- RD_INIT, 40_range_decoder.md R65 -/
  | rdInit
  /-- RD_DECIDE prob, 40_range_decoder.md R70 -/
  | rdDecide (prob : BitVec 8)
  /-- RD_DECIDE_EQ, 40_range_decoder.md R71 -/
  | rdDecideEq
  /-- RD_BITS n, 40_range_decoder.md R73 -/
  | rdBits (n : BitVec 6)
  /-- RD_SIGNED v, 40_range_decoder.md R74 -/
  | rdSigned (v : BitVec 16)
  /-- RD_SAVE, 40_range_decoder.md R75 -/
  | rdSave
  /-- RD_RESTORE, 40_range_decoder.md R76 -/
  | rdRestore
  /-- IT_DCT log2n, c, 41_inverse_transform.md R88 -/
  | itDct (size : BlockSize) (c : Component)
  /-- IT_DST4 c, 41_inverse_transform.md R89 -/
  | itDst4 (c : Component)
  /-- IT_SKIP log2n, c, rot, 41_inverse_transform.md R90 -/
  | itSkip (size : BlockSize) (c : Component) (rot : Bool)
  /-- IT_BYPASS log2n, c, rot, 41_inverse_transform.md R91 -/
  | itBypass (size : BlockSize) (c : Component) (rot : Bool)
  /-- IP_SUBST log2n, c, 42_intra_prediction.md R100 -/
  | ipSubst (size : BlockSize) (c : Component)
  /-- IP_FILTER log2n, c, mode, 42_intra_prediction.md R105 -/
  | ipFilter (size : BlockSize) (c : Component) (mode : BitVec 6)
  /-- IP_PLANAR log2n, c, 42_intra_prediction.md R106 -/
  | ipPlanar (size : BlockSize) (c : Component)
  /-- IP_DC log2n, c, nf, 42_intra_prediction.md R107 -/
  | ipDc (size : BlockSize) (c : Component) (nf : Bool)
  /-- IP_ANG log2n, c, nf, mode, 42_intra_prediction.md R118 -/
  | ipAng (size : BlockSize) (c : Component) (nf : Bool) (mode : BitVec 6)
  /-- IP_RECON log2n, c, 42_intra_prediction.md R119 -/
  | ipRecon (size : BlockSize) (c : Component)
  /-- SOFT_RESET, 43_system_commands.md R122 -/
  | softReset
deriving DecidableEq, Repr

end Sys2Proof
end

