-- ==== Sys2Proof/WellFormed.lean ====
section
/-!
DEFINITION. The field limits of 30_encoding.md R56 that the types of Syntax.lean leave open. A
command that breaks one has an illegal word (R57 (c)).
-/

namespace Sys2Proof

/-- `rot = 1` only with `log2n = 2` (30_encoding.md R56, 41_inverse_transform.md R92). -/
def rotAllowed (size : BlockSize) (rot : Bool) : Bool :=
  !rot || size == .n4

/-- The field limits of 30_encoding.md R56. -/
def Instr.wf : Instr → Bool
  | .nop => true
  | .rdInit => true
  | .rdDecide _ => true
  | .rdDecideEq => true
  | .rdBits n => n.toNat ≤ 32
  | .rdSigned _ => true
  | .rdSave => true
  | .rdRestore => true
  | .itDct _ _ => true
  | .itDst4 _ => true
  | .itSkip size _ rot => rotAllowed size rot
  | .itBypass size _ rot => rotAllowed size rot
  | .ipSubst _ _ => true
  | .ipFilter _ _ mode => mode.toNat ≤ 34
  | .ipPlanar _ _ => true
  | .ipDc _ _ _ => true
  | .ipAng _ _ _ mode => 2 ≤ mode.toNat && mode.toNat ≤ 34
  | .ipRecon _ _ => true
  | .softReset => true

/-- A command whose fields keep the limits of 30_encoding.md R56. -/
abbrev Instr.WellFormed (i : Instr) : Prop := i.wf = true

end Sys2Proof
end

