-- ==== Sys2Proof/Decode.lean ====
section
/-!
DEFINITION. The decoder, total on 32-bit words and rejecting by name (30_encoding.md R57), and
after it the encoder, both from the formats R48 to R54, the operand table R55 and the opcode map
R56.
-/

namespace Sys2Proof

/-- Why a word is illegal (30_encoding.md R57). Every one of them raises IllegalCommand when the
word is written to CMD with FAULT = 0. -/
inductive DecodeError where
  /-- R57 (a): the opcode is not in the table of R56 (OPC 0x08 to 0x0A of R58 among them). -/
  | unassignedOpcode
  /-- R57 (b): a reserved bit of the word's format is 1. -/
  | reservedBit
  /-- R57 (c): a field limit of the word's row is broken. -/
  | fieldLimit
deriving DecidableEq, Repr

/-- The block size of a `log2n` field: 2, 3, 4 and 5 are legal (30_encoding.md R55). -/
def blockSizeOf (log2n : BitVec 3) : Option BlockSize :=
  if log2n = 2#3 then some .n4
  else if log2n = 3#3 then some .n8
  else if log2n = 4#3 then some .n16
  else if log2n = 5#3 then some .n32
  else none

/-- The component of a `c` bit: 0 luma, 1 chroma (30_encoding.md R55). -/
def componentOf (c : Bool) : Component := if c then .chroma else .luma

/-- The fields of format T (30_encoding.md R53). -/
structure FieldsT where
  size : BlockSize
  c : Component
  rot : Bool
deriving DecidableEq, Repr

/-- The fields of format I (30_encoding.md R54). -/
structure FieldsI where
  size : BlockSize
  c : Component
  nf : Bool
  mode : BitVec 6
deriving DecidableEq, Repr

/-- Format Z: bits 23:0 reserved (30_encoding.md R49). -/
def formatZ (w : Word) (i : Instr) : Except DecodeError Instr :=
  if w.extractLsb' 0 24 = 0#24 then .ok i else .error .reservedBit

/-- Format P: `prob` in 7:0, bits 23:8 reserved (30_encoding.md R50). -/
def formatP (w : Word) (k : BitVec 8 → Except DecodeError Instr) : Except DecodeError Instr :=
  if w.extractLsb' 8 16 = 0#16 then k (w.extractLsb' 0 8) else .error .reservedBit

/-- Format B: `n` in 5:0, bits 23:6 reserved (30_encoding.md R51). -/
def formatB (w : Word) (k : BitVec 6 → Except DecodeError Instr) : Except DecodeError Instr :=
  if w.extractLsb' 6 18 = 0#18 then k (w.extractLsb' 0 6) else .error .reservedBit

/-- Format S: `v` in 15:0, bits 23:16 reserved (30_encoding.md R52). -/
def formatS (w : Word) (k : BitVec 16 → Except DecodeError Instr) : Except DecodeError Instr :=
  if w.extractLsb' 16 8 = 0#8 then k (w.extractLsb' 0 16) else .error .reservedBit

/-- Format T: `log2n` in 2:0, `c` in 3, `rot` in 4, bits 23:5 reserved (30_encoding.md R53). -/
def formatT (w : Word) (k : FieldsT → Except DecodeError Instr) : Except DecodeError Instr :=
  if w.extractLsb' 5 19 = 0#19 then
    match blockSizeOf (w.extractLsb' 0 3) with
    | some size => k ⟨size, componentOf (w.getLsbD 3), w.getLsbD 4⟩
    | none => .error .fieldLimit
  else .error .reservedBit

/-- Format I: `log2n` in 2:0, `c` in 3, `nf` in 4, `mode` in 10:5, bits 23:11 reserved
(30_encoding.md R54). -/
def formatI (w : Word) (k : FieldsI → Except DecodeError Instr) : Except DecodeError Instr :=
  if w.extractLsb' 11 13 = 0#13 then
    match blockSizeOf (w.extractLsb' 0 3) with
    | some size => k ⟨size, componentOf (w.getLsbD 3), w.getLsbD 4, w.extractLsb' 5 6⟩
    | none => .error .fieldLimit
  else .error .reservedBit

/-- The command, when its row's field limit holds (30_encoding.md R57 (c)). -/
def limited (ok : Bool) (i : Instr) : Except DecodeError Instr :=
  if ok then .ok i else .error .fieldLimit

/-- The opcode OPC: bits 31:24 (30_encoding.md R48). -/
def opcodeOf (w : Word) : BitVec 8 := w.extractLsb' 24 8

/-- The decoder: the opcode map of 30_encoding.md R56, every other word illegal (R57, R58, R59). -/
def decode (w : Word) : Except DecodeError Instr :=
  match (opcodeOf w).toNat with
  | 0x00 => formatZ w .nop
  | 0x01 => formatZ w .rdInit
  | 0x02 => formatP w fun prob => .ok (.rdDecide prob)
  | 0x03 => formatZ w .rdDecideEq
  | 0x04 => formatB w fun n => limited (n.toNat ≤ 32) (.rdBits n)
  | 0x05 => formatS w fun v => .ok (.rdSigned v)
  | 0x06 => formatZ w .rdSave
  | 0x07 => formatZ w .rdRestore
  | 0x10 => formatT w fun f => limited (!f.rot) (.itDct f.size f.c)
  | 0x11 => formatT w fun f => limited (f.size == .n4 && !f.rot) (.itDst4 f.c)
  | 0x12 => formatT w fun f => limited (rotAllowed f.size f.rot) (.itSkip f.size f.c f.rot)
  | 0x13 => formatT w fun f => limited (rotAllowed f.size f.rot) (.itBypass f.size f.c f.rot)
  | 0x20 => formatI w fun f => limited (!f.nf && f.mode == 0#6) (.ipSubst f.size f.c)
  | 0x21 => formatI w fun f =>
      limited (!f.nf && f.mode.toNat ≤ 34) (.ipFilter f.size f.c f.mode)
  | 0x22 => formatI w fun f => limited (!f.nf && f.mode == 0#6) (.ipPlanar f.size f.c)
  | 0x23 => formatI w fun f => limited (f.mode == 1#6) (.ipDc f.size f.c f.nf)
  | 0x24 => formatI w fun f =>
      limited (2 ≤ f.mode.toNat && f.mode.toNat ≤ 34) (.ipAng f.size f.c f.nf f.mode)
  | 0x25 => formatI w fun f => limited (!f.nf && f.mode == 0#6) (.ipRecon f.size f.c)
  | 0x7F => formatZ w .softReset
  | _ => .error .unassignedOpcode

/-- The instruction the decoder reads from an instruction of `nbits` bits `w`, bit 0 the least
significant (the numbering of spec/opcode_table.json). Every command has 32 bits
(30_encoding.md R60), so a longer one is none, and bits above `nbits` are 0. -/
def decodeTableWord (nbits w : Nat) : Option Instr :=
  if nbits ≤ 32 then
    match decode (BitVec.ofNat 32 (w % 2 ^ nbits)) with
    | .ok i => some i
    | .error _ => none
  else none

/-! ### The encoder -/

/-- The `log2n` field of a block size (30_encoding.md R55). -/
def log2nField (size : BlockSize) : BitVec 3 := BitVec.ofNat 3 size.log2

/-- The `c` field of a component (30_encoding.md R55). -/
def cField : Component → BitVec 1
  | .luma => 0#1
  | .chroma => 1#1

/-- A field of a word: `v` at bits `lo` and up, zeros elsewhere (00_scope.md R6). -/
def field {k : Nat} (v : BitVec k) (lo : Nat) : Word := v.setWidth 32 <<< lo

/-- Format Z (30_encoding.md R49). -/
def wordZ (opc : BitVec 8) : Word := field opc 24

/-- Format P (30_encoding.md R50). -/
def wordP (opc prob : BitVec 8) : Word := field opc 24 ||| field prob 0

/-- Format B (30_encoding.md R51). -/
def wordB (opc : BitVec 8) (n : BitVec 6) : Word := field opc 24 ||| field n 0

/-- Format S (30_encoding.md R52). -/
def wordS (opc : BitVec 8) (v : BitVec 16) : Word := field opc 24 ||| field v 0

/-- Format T (30_encoding.md R53). -/
def wordT (opc : BitVec 8) (size : BlockSize) (c : Component) (rot : Bool) : Word :=
  field opc 24 ||| field (BitVec.ofBool rot) 4 ||| field (cField c) 3 ||| field (log2nField size) 0

/-- Format I (30_encoding.md R54). -/
def wordI (opc : BitVec 8) (size : BlockSize) (c : Component) (nf : Bool) (mode : BitVec 6) :
    Word :=
  field opc 24 ||| field mode 5 ||| field (BitVec.ofBool nf) 4 ||| field (cField c) 3 |||
    field (log2nField size) 0

/-- The word of a command (30_encoding.md R49 to R56). For a command that breaks a field limit it
is the word with those fields, which is illegal. -/
def encode : Instr → Word
  | .nop => wordZ 0x00#8
  | .rdInit => wordZ 0x01#8
  | .rdDecide prob => wordP 0x02#8 prob
  | .rdDecideEq => wordZ 0x03#8
  | .rdBits n => wordB 0x04#8 n
  | .rdSigned v => wordS 0x05#8 v
  | .rdSave => wordZ 0x06#8
  | .rdRestore => wordZ 0x07#8
  | .itDct size c => wordT 0x10#8 size c false
  | .itDst4 c => wordT 0x11#8 .n4 c false
  | .itSkip size c rot => wordT 0x12#8 size c rot
  | .itBypass size c rot => wordT 0x13#8 size c rot
  | .ipSubst size c => wordI 0x20#8 size c false 0#6
  | .ipFilter size c mode => wordI 0x21#8 size c false mode
  | .ipPlanar size c => wordI 0x22#8 size c false 0#6
  | .ipDc size c nf => wordI 0x23#8 size c nf 1#6
  | .ipAng size c nf mode => wordI 0x24#8 size c nf mode
  | .ipRecon size c => wordI 0x25#8 size c false 0#6
  | .softReset => wordZ 0x7F#8

end Sys2Proof
end

