-- ==== Sys2Proof/Machine/Flags.lean ====
section
/-!
DEFINITION. STATUS (10_state.md R17) and FAULT_INFO: the fault codes of 60_exceptions.md R126, the
word the host reads, and the named updates of its fields. The block has no condition codes.
-/

namespace Sys2Proof.Machine

/-- The 8-bit code of a fault (60_exceptions.md R126). -/
def FaultCode.code : FaultCode → BitVec 8
  | .coderUnderflow => 1#8
  | .illegalCommand => 2#8
  | .rdNotInit => 3#8
  | .badSnapshot => 4#8

/-- STATUS: FAULT in 7:0, RD_VALID in 8, IP_FILT in 10:9, the rest zero (10_state.md R17). -/
def statusWord (s : State) : Word :=
  field s.ipFilt 9 ||| field (BitVec.ofBool s.rdValid) 8 ||| field s.fault 0

/-- A fault is recorded: FAULT ≠ 0 (60_exceptions.md R131). -/
def State.faulted (s : State) : Bool := s.fault != 0#8

/-- STATUS.FAULT and FAULT_INFO written (60_exceptions.md R129). -/
def State.withFault (s : State) (code : BitVec 8) (info : Word) : State :=
  { s with fault := code, faultInfo := info }

/-- STATUS.RD_VALID written. -/
def State.withRdValid (s : State) (b : Bool) : State := { s with rdValid := b }

/-- STATUS.IP_FILT written: 0 no change, 1 three-tap, 2 strong (10_state.md R17). -/
def State.withIpFilt (s : State) (f : BitVec 2) : State := { s with ipFilt := f }

end Sys2Proof.Machine
end

