-- ==== Sys2Proof/Machine/Memory.lean ====
section
/-!
DEFINITION. The bitstream memory (20_memory.md R34, R37): 2^32 bytes, a total function from
addresses to bytes, held as the list of the bytes that differ from `unlistedByte`, in rising
address order.
-/

namespace Sys2Proof.Machine

/-- What an unlisted address reads as: 0. DESIGN CHOICE, log entry 1. Every content of the 2^32
bytes has a list of this form. -/
def unlistedByte : Byte := 0#8

/-- The byte at address `a` (20_memory.md R37). -/
def memGet : List Host.Cell → Nat → Byte
  | [], _ => unlistedByte
  | c :: m, a => if c.1 = a then c.2 else memGet m a

/-- The list without an entry for `a`. -/
def memErase : List Host.Cell → Nat → List Host.Cell
  | [], _ => []
  | c :: m, a => if c.1 = a then m else c :: memErase m a

/-- The list with the entry `(a, b)`, in rising order. -/
def memInsert : List Host.Cell → Nat → Byte → List Host.Cell
  | [], a, b => [(a, b)]
  | c :: m, a, b =>
    if a < c.1 then (a, b) :: c :: m
    else if c.1 = a then (a, b) :: m
    else c :: memInsert m a b

/-- Byte `b` written at address `a`, the canonical form kept. -/
def memPut (m : List Host.Cell) (a : Nat) (b : Byte) : List Host.Cell :=
  if b = unlistedByte then memErase m a else memInsert m a b

/-- The addresses of the list rise strictly from above `lo`, stay below 2^32, and no entry equals
what an unlisted address reads as. -/
def memWfFrom : Nat → List Host.Cell → Bool
  | _, [] => true
  | lo, c :: m => lo ≤ c.1 && c.1 < 2 ^ 32 && c.2 != unlistedByte && memWfFrom (c.1 + 1) m

/-- The canonical form of the bitstream memory. -/
def Memory.wf (m : List Host.Cell) : Bool := memWfFrom 0 m

/-- `MemRead(addr, 1)` (20_memory.md R37): every address answers. -/
def memRead (s : State) (addr : BitVec 32) : Byte := memGet s.mem addr.toNat

/-- The state after another master's write of a byte (20_memory.md R46). The block itself never
calls it (20_memory.md R37). -/
def State.withMemByte (s : State) (addr : BitVec 32) (b : Byte) : State :=
  { s with mem := memPut s.mem addr.toNat b }

end Sys2Proof.Machine
end

