-- ==== Sys2Proof/Machine/Operands.lean ====
section
/-!
DEFINITION. The operand forms of 30_encoding.md R55: how each field of a command word becomes the
value its rule computes with.
-/

namespace Sys2Proof.Machine

/-- `bitDepth`: BD_Y when c = 0, BD_C when c = 1 (10_state.md R19, 30_encoding.md R55). -/
def bitDepth (s : State) : Component → Nat
  | .luma => s.bdY.toNat
  | .chroma => s.bdC.toNat

/-- The greatest sample of a bit depth, `(1 << bitDepth) - 1` (00_scope.md R11). -/
def sampleMax (depth : Nat) : Int := shl 1 depth - 1

/-- Mid-gray, `1 << (bitDepth - 1)` (42_intra_prediction.md R100). -/
def midGray (depth : Nat) : Int := shl 1 (depth - 1)

/-- `prob` is used as it is, 0 to 255 (30_encoding.md R55). -/
def probOperand (prob : BitVec 8) : Nat := prob.toNat

/-- `n` is unsigned (30_encoding.md R55). -/
def bitCountOperand (n : BitVec 6) : Nat := n.toNat

/-- `v` is `sext_32(v)` (30_encoding.md R55). -/
def signedOperand (v : BitVec 16) : Word := v.signExtend 32

/-- `mode` is an unsigned mode number (30_encoding.md R55). -/
def modeOperand (mode : BitVec 6) : Nat := mode.toNat

/-- `zext_32(bit)` (00_scope.md R6). -/
def bitWord (b : Bool) : Word := (BitVec.ofBool b).setWidth 32

end Sys2Proof.Machine
end

