-- ==== Sys2Proof/Machine/Params.lean ====
section
/-!
DEFINITION. The parameters of 00_scope.md R5 at their default values: widths, ranges, shifts and
tables. The spec calls them parameters of the block (93_implementation_defined.md U18); this model
takes the defaults. DESIGN CHOICE, log entry 10.
-/

namespace Sys2Proof.Machine

/-- COEFF_MIN (00_scope.md R5, 41_inverse_transform.md R84). -/
def coeffMin : Int := -32768

/-- COEFF_MAX (00_scope.md R5, 41_inverse_transform.md R84). -/
def coeffMax : Int := 32767

/-- SHIFT1, the right shift after the column pass (00_scope.md R5). -/
def shift1 : Nat := 7

/-- SHIFT2, the right shift after the row pass (00_scope.md R5). -/
def shift2 (bitDepth : Nat) : Nat := 20 - bitDepth

/-- TS_SHIFT, the left shift of the transform-skip path (00_scope.md R5). -/
def tsShift (log2n : Nat) : Nat := 5 + log2n

/-- The equiprobable probability (40_range_decoder.md R71). -/
def equiprobable : Nat := 128

/-- TM[0] (41_inverse_transform.md R85). -/
def tmRow0 : List Int :=
  [64, 64, 64, 64, 64, 64, 64, 64, 64, 64, 64, 64, 64, 64, 64, 64,
   64, 64, 64, 64, 64, 64, 64, 64, 64, 64, 64, 64, 64, 64, 64, 64]

/-- TM[1] (41_inverse_transform.md R85). -/
def tmRow1 : List Int :=
  [90, 90, 88, 85, 82, 78, 73, 67, 61, 54, 46, 38, 31, 22, 13, 4,
   -4, -13, -22, -31, -38, -46, -54, -61, -67, -73, -78, -82, -85, -88, -90, -90]

/-- TM[2] (41_inverse_transform.md R85). -/
def tmRow2 : List Int :=
  [90, 87, 80, 70, 57, 43, 25, 9, -9, -25, -43, -57, -70, -80, -87, -90,
   -90, -87, -80, -70, -57, -43, -25, -9, 9, 25, 43, 57, 70, 80, 87, 90]

/-- TM[3] (41_inverse_transform.md R85). -/
def tmRow3 : List Int :=
  [90, 82, 67, 46, 22, -4, -31, -54, -73, -85, -90, -88, -78, -61, -38, -13,
   13, 38, 61, 78, 88, 90, 85, 73, 54, 31, 4, -22, -46, -67, -82, -90]

/-- TM[4] (41_inverse_transform.md R85). -/
def tmRow4 : List Int :=
  [89, 75, 50, 18, -18, -50, -75, -89, -89, -75, -50, -18, 18, 50, 75, 89,
   89, 75, 50, 18, -18, -50, -75, -89, -89, -75, -50, -18, 18, 50, 75, 89]

/-- TM[5] (41_inverse_transform.md R85). -/
def tmRow5 : List Int :=
  [88, 67, 31, -13, -54, -82, -90, -78, -46, -4, 38, 73, 90, 85, 61, 22,
   -22, -61, -85, -90, -73, -38, 4, 46, 78, 90, 82, 54, 13, -31, -67, -88]

/-- TM[6] (41_inverse_transform.md R85). -/
def tmRow6 : List Int :=
  [87, 57, 9, -43, -80, -90, -70, -25, 25, 70, 90, 80, 43, -9, -57, -87,
   -87, -57, -9, 43, 80, 90, 70, 25, -25, -70, -90, -80, -43, 9, 57, 87]

/-- TM[7] (41_inverse_transform.md R85). -/
def tmRow7 : List Int :=
  [85, 46, -13, -67, -90, -73, -22, 38, 82, 88, 54, -4, -61, -90, -78, -31,
   31, 78, 90, 61, 4, -54, -88, -82, -38, 22, 73, 90, 67, 13, -46, -85]

/-- TM[8] (41_inverse_transform.md R85). -/
def tmRow8 : List Int :=
  [83, 36, -36, -83, -83, -36, 36, 83, 83, 36, -36, -83, -83, -36, 36, 83,
   83, 36, -36, -83, -83, -36, 36, 83, 83, 36, -36, -83, -83, -36, 36, 83]

/-- TM[9] (41_inverse_transform.md R85). -/
def tmRow9 : List Int :=
  [82, 22, -54, -90, -61, 13, 78, 85, 31, -46, -90, -67, 4, 73, 88, 38,
   -38, -88, -73, -4, 67, 90, 46, -31, -85, -78, -13, 61, 90, 54, -22, -82]

/-- TM[10] (41_inverse_transform.md R85). -/
def tmRow10 : List Int :=
  [80, 9, -70, -87, -25, 57, 90, 43, -43, -90, -57, 25, 87, 70, -9, -80,
   -80, -9, 70, 87, 25, -57, -90, -43, 43, 90, 57, -25, -87, -70, 9, 80]

/-- TM[11] (41_inverse_transform.md R85). -/
def tmRow11 : List Int :=
  [78, -4, -82, -73, 13, 85, 67, -22, -88, -61, 31, 90, 54, -38, -90, -46,
   46, 90, 38, -54, -90, -31, 61, 88, 22, -67, -85, -13, 73, 82, 4, -78]

/-- TM[12] (41_inverse_transform.md R85). -/
def tmRow12 : List Int :=
  [75, -18, -89, -50, 50, 89, 18, -75, -75, 18, 89, 50, -50, -89, -18, 75,
   75, -18, -89, -50, 50, 89, 18, -75, -75, 18, 89, 50, -50, -89, -18, 75]

/-- TM[13] (41_inverse_transform.md R85). -/
def tmRow13 : List Int :=
  [73, -31, -90, -22, 78, 67, -38, -90, -13, 82, 61, -46, -88, -4, 85, 54,
   -54, -85, 4, 88, 46, -61, -82, 13, 90, 38, -67, -78, 22, 90, 31, -73]

/-- TM[14] (41_inverse_transform.md R85). -/
def tmRow14 : List Int :=
  [70, -43, -87, 9, 90, 25, -80, -57, 57, 80, -25, -90, -9, 87, 43, -70,
   -70, 43, 87, -9, -90, -25, 80, 57, -57, -80, 25, 90, 9, -87, -43, 70]

/-- TM[15] (41_inverse_transform.md R85). -/
def tmRow15 : List Int :=
  [67, -54, -78, 38, 85, -22, -90, 4, 90, 13, -88, -31, 82, 46, -73, -61,
   61, 73, -46, -82, 31, 88, -13, -90, -4, 90, 22, -85, -38, 78, 54, -67]

/-- TM[16] (41_inverse_transform.md R85). -/
def tmRow16 : List Int :=
  [64, -64, -64, 64, 64, -64, -64, 64, 64, -64, -64, 64, 64, -64, -64, 64,
   64, -64, -64, 64, 64, -64, -64, 64, 64, -64, -64, 64, 64, -64, -64, 64]

/-- TM[17] (41_inverse_transform.md R85). -/
def tmRow17 : List Int :=
  [61, -73, -46, 82, 31, -88, -13, 90, -4, -90, 22, 85, -38, -78, 54, 67,
   -67, -54, 78, 38, -85, -22, 90, 4, -90, 13, 88, -31, -82, 46, 73, -61]

/-- TM[18] (41_inverse_transform.md R85). -/
def tmRow18 : List Int :=
  [57, -80, -25, 90, -9, -87, 43, 70, -70, -43, 87, 9, -90, 25, 80, -57,
   -57, 80, 25, -90, 9, 87, -43, -70, 70, 43, -87, -9, 90, -25, -80, 57]

/-- TM[19] (41_inverse_transform.md R85). -/
def tmRow19 : List Int :=
  [54, -85, -4, 88, -46, -61, 82, 13, -90, 38, 67, -78, -22, 90, -31, -73,
   73, 31, -90, 22, 78, -67, -38, 90, -13, -82, 61, 46, -88, 4, 85, -54]

/-- TM[20] (41_inverse_transform.md R85). -/
def tmRow20 : List Int :=
  [50, -89, 18, 75, -75, -18, 89, -50, -50, 89, -18, -75, 75, 18, -89, 50,
   50, -89, 18, 75, -75, -18, 89, -50, -50, 89, -18, -75, 75, 18, -89, 50]

/-- TM[21] (41_inverse_transform.md R85). -/
def tmRow21 : List Int :=
  [46, -90, 38, 54, -90, 31, 61, -88, 22, 67, -85, 13, 73, -82, 4, 78,
   -78, -4, 82, -73, -13, 85, -67, -22, 88, -61, -31, 90, -54, -38, 90, -46]

/-- TM[22] (41_inverse_transform.md R85). -/
def tmRow22 : List Int :=
  [43, -90, 57, 25, -87, 70, 9, -80, 80, -9, -70, 87, -25, -57, 90, -43,
   -43, 90, -57, -25, 87, -70, -9, 80, -80, 9, 70, -87, 25, 57, -90, 43]

/-- TM[23] (41_inverse_transform.md R85). -/
def tmRow23 : List Int :=
  [38, -88, 73, -4, -67, 90, -46, -31, 85, -78, 13, 61, -90, 54, 22, -82,
   82, -22, -54, 90, -61, -13, 78, -85, 31, 46, -90, 67, 4, -73, 88, -38]

/-- TM[24] (41_inverse_transform.md R85). -/
def tmRow24 : List Int :=
  [36, -83, 83, -36, -36, 83, -83, 36, 36, -83, 83, -36, -36, 83, -83, 36,
   36, -83, 83, -36, -36, 83, -83, 36, 36, -83, 83, -36, -36, 83, -83, 36]

/-- TM[25] (41_inverse_transform.md R85). -/
def tmRow25 : List Int :=
  [31, -78, 90, -61, 4, 54, -88, 82, -38, -22, 73, -90, 67, -13, -46, 85,
   -85, 46, 13, -67, 90, -73, 22, 38, -82, 88, -54, -4, 61, -90, 78, -31]

/-- TM[26] (41_inverse_transform.md R85). -/
def tmRow26 : List Int :=
  [25, -70, 90, -80, 43, 9, -57, 87, -87, 57, -9, -43, 80, -90, 70, -25,
   -25, 70, -90, 80, -43, -9, 57, -87, 87, -57, 9, 43, -80, 90, -70, 25]

/-- TM[27] (41_inverse_transform.md R85). -/
def tmRow27 : List Int :=
  [22, -61, 85, -90, 73, -38, -4, 46, -78, 90, -82, 54, -13, -31, 67, -88,
   88, -67, 31, 13, -54, 82, -90, 78, -46, 4, 38, -73, 90, -85, 61, -22]

/-- TM[28] (41_inverse_transform.md R85). -/
def tmRow28 : List Int :=
  [18, -50, 75, -89, 89, -75, 50, -18, -18, 50, -75, 89, -89, 75, -50, 18,
   18, -50, 75, -89, 89, -75, 50, -18, -18, 50, -75, 89, -89, 75, -50, 18]

/-- TM[29] (41_inverse_transform.md R85). -/
def tmRow29 : List Int :=
  [13, -38, 61, -78, 88, -90, 85, -73, 54, -31, 4, 22, -46, 67, -82, 90,
   -90, 82, -67, 46, -22, -4, 31, -54, 73, -85, 90, -88, 78, -61, 38, -13]

/-- TM[30] (41_inverse_transform.md R85). -/
def tmRow30 : List Int :=
  [9, -25, 43, -57, 70, -80, 87, -90, 90, -87, 80, -70, 57, -43, 25, -9,
   -9, 25, -43, 57, -70, 80, -87, 90, -90, 87, -80, 70, -57, 43, -25, 9]

/-- TM[31] (41_inverse_transform.md R85). -/
def tmRow31 : List Int :=
  [4, -13, 22, -31, 38, -46, 54, -61, 67, -73, 78, -82, 85, -88, 90, -90,
   90, -90, 88, -85, 82, -78, 73, -67, 61, -54, 46, -38, 31, -22, 13, -4]

/-- TM, row `k` the frequency (41_inverse_transform.md R85). -/
def tmRows : List (List Int) :=
  [tmRow0, tmRow1, tmRow2, tmRow3, tmRow4, tmRow5, tmRow6, tmRow7,
   tmRow8, tmRow9, tmRow10, tmRow11, tmRow12, tmRow13, tmRow14, tmRow15,
   tmRow16, tmRow17, tmRow18, tmRow19, tmRow20, tmRow21, tmRow22, tmRow23,
   tmRow24, tmRow25, tmRow26, tmRow27, tmRow28, tmRow29, tmRow30, tmRow31]

/-- DST4, row `j` the frequency (41_inverse_transform.md R86). -/
def dst4Rows : List (List Int) :=
  [[29, 55, 74, 84], [74, 74, 0, -74], [84, -29, -74, 55], [55, -84, 74, -29]]

/-- Entry `i` of row `j` of a matrix; 0 outside it (no rule reads there). -/
def matEntry (rows : List (List Int)) (j i : Nat) : Int := (rows.getD j []).getD i 0

/-- `TM[k][n]` (41_inverse_transform.md R85). -/
def tm (k n : Nat) : Int := matEntry tmRows k n

/-- `M_N[j][i] = TM[j * (32 / N)][i]` (41_inverse_transform.md R86). -/
def cosineMatrix (n j i : Nat) : Int := tm (j * (32 / n)) i

/-- `DST4[j][i]` (41_inverse_transform.md R86). -/
def dst4 (j i : Nat) : Int := matEntry dst4Rows j i

/-- FILTER_THRES: 7, 1, 0 for N = 8, 16, 32 (00_scope.md R5, 42_intra_prediction.md R101). For
N = 4 the rule has no threshold and none is read. -/
def filterThres : BlockSize → Int
  | .n4 => 0
  | .n8 => 7
  | .n16 => 1
  | .n32 => 0

/-- ANGLE for modes 2 to 34 in order (42_intra_prediction.md R110). -/
def angleList : List Int :=
  [32, 26, 21, 17, 13, 9, 5, 2, 0, -2, -5, -9, -13, -17, -21, -26, -32] ++
  [-26, -21, -17, -13, -9, -5, -2, 0, 2, 5, 9, 13, 17, 21, 26, 32]

/-- `ANGLE[mode]`, modes 2 to 34 (42_intra_prediction.md R110). -/
def angle (mode : Nat) : Int := angleList.getD (mode - 2) 0

/-- INV_ANGLE for modes 11 to 25 in order (42_intra_prediction.md R111). -/
def invAngleList : List Int :=
  [-4096, -1638, -910, -630, -482, -390, -315, -256, -315, -390, -482, -630, -910, -1638, -4096]

/-- `INV_ANGLE[mode]`, modes 11 to 25 (42_intra_prediction.md R111). -/
def invAngle (mode : Nat) : Int := invAngleList.getD (mode - 11) 0

end Sys2Proof.Machine
end

