-- ==== Sys2Proof/Machine/Ops.lean ====
section
/-!
DEFINITION. The operations the meanings share: the fault entry and the return from a fault, the
checks before a command, the byte refill and the binary decision of the RD unit.
-/

namespace Sys2Proof.Machine

/-- The outcome of a step. -/
abbrev StepOutcome := Host.Outcome State Fault Refusal

/-! ### Taking a fault and returning from it -/

/-- `raise X(cmd)`: STATUS.FAULT takes the code, FAULT_INFO the command word, nothing else changes
(60_exceptions.md R129). -/
def State.raise (s : State) (x : FaultCode) (cmd : Word) : State := s.withFault x.code cmd

/-- SOFT_RESET's effect, the return from a fault (43_system_commands.md R122, 60_exceptions.md
R133): every register that has a reset value takes it, the buffers are unchanged. -/
def State.softReset (s : State) : State :=
  { s with
    value := 0#32, range := 255#8, count := -8#4,
    bsBase := 0#32, bsLen := 0#32, bsPos := 0#32,
    snapValue := 0#32, snapRange := 0#8, snapCount := 0#4,
    result := 0#32, fault := 0#8, rdValid := false, ipFilt := 0#2, faultInfo := 0#32,
    bdY := 8#4, bdC := 8#4, strong := false }

/-- The hardware reset (70_reset_and_hazards.md R142 to R144): the registers as SOFT_RESET leaves
them, the buffers unspecified (fresh free values, log entry 2), the bitstream memory unchanged. -/
def State.hardReset (s : State) : State :=
  { s.softReset with
    d := .tabulate 1024 (Config.powerOnD (s.resets + 1))
    res := .tabulate 1024 (Config.powerOnRes (s.resets + 1))
    pred := .tabulate 1024 (Config.powerOnPred (s.resets + 1))
    out := .tabulate 1024 (Config.powerOnOut (s.resets + 1))
    ref := .tabulate 129 fun i =>
      ⟨Config.powerOnRefAvail (s.resets + 1) i, Config.powerOnRefVal (s.resets + 1) i⟩
    resets := s.resets + 1 }

/-! ### The checks before a command -/

/-- Checks (1) and (2) of 40_range_decoder.md R64, which every command but SOFT_RESET makes
(60_exceptions.md R131, R132): with a fault recorded the command is discarded; a command that
breaks a field limit raises IllegalCommand (log entry 13). -/
def checked (i : Instr) (s : State) (run : State → StepOutcome) : StepOutcome :=
  if s.faulted then .next s
  else if i.wf then run s
  else .next (s.raise .illegalCommand (encode i))

/-- Check (3) of 40_range_decoder.md R64: RD_VALID = 0 raises RdNotInit. -/
def needsDecoder (i : Instr) (s : State) (run : State → StepOutcome) : StepOutcome :=
  if s.rdValid then run s else .next (s.raise .rdNotInit (encode i))

/-! ### Named updates of the RD unit's registers -/

/-- VALUE, RANGE and COUNT written. -/
def State.withCoder (s : State) (value : BitVec 32) (range : BitVec 8) (count : BitVec 4) :
    State :=
  { s with value := value, range := range, count := count }

/-- BS_POS written. -/
def State.withBsPos (s : State) (p : BitVec 32) : State := { s with bsPos := p }

/-- SNAP_VALUE, SNAP_RANGE and SNAP_COUNT written. -/
def State.withSnap (s : State) (value : BitVec 32) (range : BitVec 8) (count : BitVec 4) : State :=
  { s with snapValue := value, snapRange := range, snapCount := count }

/-- RESULT written (10_state.md R16). -/
def State.withResult (s : State) (r : Word) : State := { s with result := r }

/-! ### The refill -/

/-- The byte the next refill fetches: at `(BS_BASE + BS_POS) mod 2^32` (20_memory.md R38). -/
def nextByte (s : State) : Byte := memRead s (s.bsBase + s.bsPos)

/-- `Refill()` (40_range_decoder.md R66); none is CoderUnderflow, with nothing done. -/
def refill (s : State) : Option State :=
  if s.bsLen ≤ s.bsPos then none
  else some
    ((s.withCoder ((s.value <<< 8) ||| (nextByte s).setWidth 32) s.range (s.count + 8#4)).withBsPos
      (s.bsPos + 1#32))

/-! ### One decision -/

/-- What a decision does. -/
inductive Decided where
  /-- It decides `b` and leaves the state `s`. -/
  | bit (b : Bool) (s : State)
  /-- Its refill raises CoderUnderflow; no state has changed (40_range_decoder.md R67). -/
  | underflow
  /-- Its renormalisation is not defined (log entry 11). -/
  | stuck

/-- `split = ((RANGE - 1) * prob) >> 8` (40_range_decoder.md R68). -/
def splitOf (range : BitVec 8) (prob : Nat) : Int := asr (((range.toNat : Int) - 1) * prob) 8

/-- `top = VALUE >> COUNT`, with COUNT in 0..7 (40_range_decoder.md R68). -/
def topOf (s : State) : Int := asr s.value.toNat s.count.toNat

/-- Decide, step 3: renormalisation of the interval `rng`, with VALUE already updated
(40_range_decoder.md R69). -/
def renorm (s : State) (b : Bool) (value : BitVec 32) (rng : Int) : Decided :=
  if rng < 1 then .stuck
  else
    let shift := 7 ^^^ floorLog2 rng.toNat
    .bit b (s.withCoder value (BitVec.ofInt 8 (shl rng shift))
      (BitVec.ofInt 4 (s.count.toInt - shift)))

/-- Decide, steps 2 and 3: split and compare, then renormalise (40_range_decoder.md R68, R69). -/
def decideFilled (prob : Nat) (s : State) : Decided :=
  let split := splitOf s.range prob
  if split < topOf s then
    renorm s true (BitVec.ofInt 32 (s.value.toNat - shl (split + 1) s.count.toNat))
      ((s.range.toNat : Int) - 1 - split)
  else renorm s false s.value (split + 1)

/-- `Decide(prob)`: the refill on entry when COUNT < 0, then steps 2 and 3 (40_range_decoder.md
R67 to R69). -/
def decideBit (prob : Nat) (s : State) : Decided :=
  if s.count.toInt < 0 then
    match refill s with
    | none => .underflow
    | some s' => decideFilled prob s'
  else decideFilled prob s

/-- What a run of equiprobable decisions does. -/
inductive BitsRun where
  /-- All are made: the value `v` and the state `s`. -/
  | done (v : Nat) (s : State)
  /-- One is starved: `s` is the state after the decisions before it. -/
  | starved (s : State)
  /-- A renormalisation is not defined (log entry 11). -/
  | stuck

/-- The loop of RD_BITS over `i = n-1 .. 0` with the bits so far in `v` (40_range_decoder.md
R73). -/
def decideBits : Nat → Nat → State → BitsRun
  | 0, v, s => .done v s
  | i + 1, v, s =>
    match decideBit equiprobable s with
    | .bit b s' => decideBits i (v ||| (b.toNat <<< i)) s'
    | .underflow => .starved s
    | .stuck => .stuck

/-- A deciding command after its checks: the decision, then RESULT from the bit; a starved
decision raises CoderUnderflow (40_range_decoder.md R70, R71, R74). -/
def deciding (i : Instr) (prob : Nat) (result : Bool → Word) (s : State) : StepOutcome :=
  match decideBit prob s with
  | .bit b s' => .next (s'.withResult (result b))
  | .underflow => .next (s.raise .coderUnderflow (encode i))
  | .stuck => .fault .renormUndefined

end Sys2Proof.Machine
end

