-- ==== Sys2Proof/Machine/IntraPrediction.lean ====
section
/-!
DEFINITION. The six commands of the IP unit (42_intra_prediction.md R98 to R120). They work on
REF, PRED, RES and OUT, read CFG, and IP_FILTER writes STATUS.IP_FILT (R98).
-/

namespace Sys2Proof.Machine

/-! ### Substitution -/

/-- The scan of 42_intra_prediction.md R100: an unavailable sample takes the value `prev` of the
sample before it, as already updated; every `avail` becomes 1. -/
def substScan (prev : Entry) : List RefEntry → List RefEntry
  | [] => []
  | e :: es =>
    let v := if e.avail then e.val else prev
    ⟨true, v⟩ :: substScan v es

/-- The first `l` samples after IP_SUBST (42_intra_prediction.md R100): mid-gray when none is
available, else the scan, REF[0] taking the first available value when it has none. -/
def substituted (gray : Entry) (used : List RefEntry) : List RefEntry :=
  match used.find? (·.avail) with
  | none => used.map fun _ => ⟨true, gray⟩
  | some e => substScan e.val used

/-- REF after IP_SUBST of a block of size `n` (42_intra_prediction.md R100): entries above 4N are
not touched. -/
def substLine (n depth : Nat) (r : RefLine) : RefLine :=
  let used := substituted (entryOf (midGray depth)) (r.cells.take (4 * n + 1))
  .tabulate 129 fun i => if i < 4 * n + 1 then used.getD i default else r.get i

/-! ### Smoothing -/

/-- filterFlag (42_intra_prediction.md R101). -/
def filterFlag (size : BlockSize) (mode : Nat) : Bool :=
  if mode = 1 ∨ size = .n4 then false
  else filterThres size < min |(mode : Int) - 26| |(mode : Int) - 10|

/-- The two gradient conditions of the strong filter (42_intra_prediction.md R102), N = 32. -/
def smoothGradients (r : RefLine) (bdY : Nat) : Bool :=
  |r.top 32 (-1) + r.top 32 63 - 2 * r.top 32 31| < shl 1 (bdY - 5) &&
  |r.top 32 (-1) + r.left 32 63 - 2 * r.left 32 31| < shl 1 (bdY - 5)

/-- Whether the filter is the strong one, when filterFlag = 1 (42_intra_prediction.md R102). -/
def strongSelected (s : State) (size : BlockSize) (c : Component) : Bool :=
  s.strong && c == .luma && size == .n32 && smoothGradients s.ref s.bdY.toNat

/-- The three-tap filter (42_intra_prediction.md R103). -/
def threeTap (n : Nat) (r : RefLine) : RefLine :=
  r.mapVal (fun i => 1 ≤ i && i < 4 * n) fun i =>
    asr (r.sample (i - 1) + 2 * r.sample i + r.sample (i + 1) + 2) 2

/-- The strong filter at distance `k = 0..62` from the corner toward the end sample `last`
(42_intra_prediction.md R104). -/
def strongSample (corner last : Int) (k : Int) : Int :=
  asr ((63 - k) * corner + (k + 1) * last + 32) 6

/-- The strong filter, N = 32 (42_intra_prediction.md R104): `p[-1][y]` is REF[63-y] and
`p[x][-1]` is REF[65+x]. -/
def strongFilter (r : RefLine) : RefLine :=
  r.mapVal (fun i => 1 ≤ i && i < 128 && i != 64) fun i =>
    if i < 64 then strongSample (r.left 32 (-1)) (r.left 32 63) (63 - i)
    else strongSample (r.top 32 (-1)) (r.top 32 63) ((i : Int) - 65)

/-! ### Planar and DC -/

/-- The planar value at (x, y) (42_intra_prediction.md R106). -/
def planarValue (size : BlockSize) (r : RefLine) (x y : Nat) : Int :=
  let n := size.n
  asr (((n : Int) - 1 - x) * r.left n y + (x + 1) * r.top n n
    + ((n : Int) - 1 - y) * r.top n x + (y + 1) * r.left n n + n) (size.log2 + 1)

/-- dcVal (42_intra_prediction.md R107). -/
def dcValue (size : BlockSize) (r : RefLine) : Int :=
  let n := size.n
  asr (sumTo n (fun x => r.top n x) + sumTo n (fun y => r.left n y) + n) (size.log2 + 1)

/-- The condition of the boundary filters: luma, N < 32, nf = 0 (42_intra_prediction.md R107,
R114, R117). -/
def boundaryFiltered (size : BlockSize) (c : Component) (nf : Bool) : Bool :=
  c == .luma && size.n < 32 && !nf

/-- The DC sample at (x, y) after the edge correction (42_intra_prediction.md R108). -/
def dcEdge (n : Nat) (r : RefLine) (dc : Int) (x y : Nat) : Int :=
  if x = 0 ∧ y = 0 then asr (r.left n 0 + 2 * dc + r.top n 0 + 2) 2
  else if y = 0 then asr (r.top n x + 3 * dc + 2) 2
  else if x = 0 then asr (r.left n y + 3 * dc + 2) 2
  else dc

/-! ### Angular -/

/-- The reference array `ref(k)` (42_intra_prediction.md R112, R115): `main` along the main side,
`side` the projection of the other one for a negative index. -/
def angularRef (main side : Int → Int) (mode : Nat) (k : Int) : Int :=
  if 0 ≤ k then main (-1 + k) else side (-1 + asr (k * invAngle mode + 128) 8)

/-- The interpolation of 42_intra_prediction.md R113 and R116: `along` the position along the main
side, `across` the distance from it. -/
def angularSample (ref : Int → Int) (a : Int) (along across : Nat) : Int :=
  let iIdx := asr ((across + 1) * a) 5
  let iFact := and31 ((across + 1) * a)
  if iFact ≠ 0 then
    asr ((32 - iFact) * ref (along + iIdx + 1) + iFact * ref (along + iIdx + 2) + 16) 5
  else ref (along + iIdx + 1)

/-- The boundary filter's value (42_intra_prediction.md R114, R117). -/
def boundaryValue (depth : Nat) (base step corner : Int) : Int :=
  clip3 0 (sampleMax depth) (base + asr (step - corner) 1)

/-- Modes 18 to 34 at (x, y) (42_intra_prediction.md R112 to R114). -/
def verticalValue (size : BlockSize) (filtered : Bool) (depth mode : Nat) (r : RefLine)
    (x y : Nat) : Int :=
  let n := size.n
  if mode = 26 ∧ filtered ∧ x = 0 then boundaryValue depth (r.top n 0) (r.left n y) (r.top n (-1))
  else angularSample (angularRef (r.top n) (r.left n) mode) (angle mode) x y

/-- Modes 2 to 17 at (x, y) (42_intra_prediction.md R115 to R117). -/
def horizontalValue (size : BlockSize) (filtered : Bool) (depth mode : Nat) (r : RefLine)
    (x y : Nat) : Int :=
  let n := size.n
  if mode = 10 ∧ filtered ∧ y = 0 then
    boundaryValue depth (r.left n 0) (r.top n x) (r.left n (-1))
  else angularSample (angularRef (r.left n) (r.top n) mode) (angle mode) y x

/-- The angular prediction at (x, y) (42_intra_prediction.md R118). -/
def angularValue (size : BlockSize) (c : Component) (nf : Bool) (depth mode : Nat) (r : RefLine)
    (x y : Nat) : Int :=
  if 18 ≤ mode then verticalValue size (boundaryFiltered size c nf) depth mode r x y
  else horizontalValue size (boundaryFiltered size c nf) depth mode r x y

/-! ### Reconstruction -/

/-- `Clip3(0, (1 << bitDepth) - 1, PRED + RES)` (42_intra_prediction.md R119). -/
def reconValue (depth : Nat) (pred res : Int) : Int := clip3 0 (sampleMax depth) (pred + res)

/-! ### The commands -/

/-- IP_SUBST (42_intra_prediction.md R100). -/
def execIpSubst (size : BlockSize) (c : Component) (s : State) : StepOutcome :=
  checked (.ipSubst size c) s fun s => .next (s.withRef (substLine size.n (bitDepth s c) s.ref))

/-- IP_FILTER (42_intra_prediction.md R105). -/
def execIpFilter (size : BlockSize) (c : Component) (mode : BitVec 6) (s : State) : StepOutcome :=
  checked (.ipFilter size c mode) s fun s =>
    if filterFlag size (modeOperand mode) then
      if strongSelected s size c then .next ((s.withRef (strongFilter s.ref)).withIpFilt 2#2)
      else .next ((s.withRef (threeTap size.n s.ref)).withIpFilt 1#2)
    else .next (s.withIpFilt 0#2)

/-- IP_PLANAR (42_intra_prediction.md R106): `c` ignored. -/
def execIpPlanar (size : BlockSize) (c : Component) (s : State) : StepOutcome :=
  checked (.ipPlanar size c) s fun s =>
    .next (s.withPred (s.pred.corner size.n fun x y => entryOf (planarValue size s.ref x y)))

/-- IP_DC (42_intra_prediction.md R107, R108). -/
def execIpDc (size : BlockSize) (c : Component) (nf : Bool) (s : State) : StepOutcome :=
  checked (.ipDc size c nf) s fun s =>
    let dc := dcValue size s.ref
    .next (s.withPred (s.pred.corner size.n fun x y => entryOf
      (if boundaryFiltered size c nf then dcEdge size.n s.ref dc x y else dc)))

/-- IP_ANG (42_intra_prediction.md R118). -/
def execIpAng (size : BlockSize) (c : Component) (nf : Bool) (mode : BitVec 6) (s : State) :
    StepOutcome :=
  checked (.ipAng size c nf mode) s fun s =>
    .next (s.withPred (s.pred.corner size.n fun x y => entryOf
      (angularValue size c nf (bitDepth s c) (modeOperand mode) s.ref x y)))

/-- IP_RECON (42_intra_prediction.md R119). -/
def execIpRecon (size : BlockSize) (c : Component) (s : State) : StepOutcome :=
  checked (.ipRecon size c) s fun s =>
    .next (s.withOut (s.out.corner size.n fun x y => entryOf
      (reconValue (bitDepth s c) (s.pred.unsigned x y) (s.res.signed x y))))

end Sys2Proof.Machine
end

