-- ==== Sys2Proof/Machine/InverseTransform.lean ====
section
/-!
DEFINITION. The four commands of the IT unit (41_inverse_transform.md R83 to R97). They read D and
the bit depth and write the N by N corner of RES, and nothing else (R83).
-/

namespace Sys2Proof.Machine

/-- The clip to the coefficient range (41_inverse_transform.md R84). -/
def clipCoeff (v : Int) : Int := clip3 coeffMin coeffMax v

/-- Pass 1 of 41_inverse_transform.md R88: every column, along y, with matrix `m`. -/
def columnPass (n : Nat) (m : Nat → Nat → Int) (d : Block) : Grid n :=
  gridOf n fun x y => clipCoeff (roundShift (sumTo n fun j => m j y * d.signed x j) shift1)

/-- Pass 2 of 41_inverse_transform.md R88 at (x, y): the row y, along x. -/
def rowPass (n : Nat) (m : Nat → Nat → Int) (depth : Nat) (g : Grid n) (x y : Nat) : Int :=
  clipCoeff (roundShift (sumTo n fun j => m j x * gridAt g j y) (shift2 depth))

/-- Both passes (41_inverse_transform.md R88): RES after the transform. -/
def inverseTransform (n : Nat) (m : Nat → Nat → Int) (depth : Nat) (d res : Block) : Block :=
  let g := columnPass n m d
  res.corner n fun x y => entryOf (rowPass n m depth g x y)

/-- The coefficient that position (x, y) takes: turned by 180 degrees when `rot`
(41_inverse_transform.md R92). -/
def rotatedAt (n : Nat) (rot : Bool) (d : Block) (x y : Nat) : Entry :=
  if rot then d.at (n - 1 - x) (n - 1 - y) else d.at x y

/-- IT_SKIP's value of the coefficient `d` (41_inverse_transform.md R90). -/
def skipValue (log2n depth : Nat) (d : Int) : Int :=
  clipCoeff (roundShift (shl d (tsShift log2n)) (shift2 depth))

/-- IT_DCT (41_inverse_transform.md R88). -/
def execItDct (size : BlockSize) (c : Component) (s : State) : StepOutcome :=
  checked (.itDct size c) s fun s =>
    .next (s.withRes
      (inverseTransform size.n (cosineMatrix size.n) (bitDepth s c) s.d s.res))

/-- IT_DST4 (41_inverse_transform.md R89): R88 with N = 4 and the matrix DST4. -/
def execItDst4 (c : Component) (s : State) : StepOutcome :=
  checked (.itDst4 c) s fun s =>
    .next (s.withRes (inverseTransform 4 dst4 (bitDepth s c) s.d s.res))

/-- IT_SKIP (41_inverse_transform.md R90). -/
def execItSkip (size : BlockSize) (c : Component) (rot : Bool) (s : State) : StepOutcome :=
  checked (.itSkip size c rot) s fun s =>
    .next (s.withRes (s.res.corner size.n fun x y =>
      entryOf (skipValue size.log2 (bitDepth s c) (rotatedAt size.n rot s.d x y).toInt)))

/-- IT_BYPASS (41_inverse_transform.md R91): a copy, `c` ignored. -/
def execItBypass (size : BlockSize) (c : Component) (rot : Bool) (s : State) : StepOutcome :=
  checked (.itBypass size c rot) s fun s =>
    .next (s.withRes (s.res.corner size.n (rotatedAt size.n rot s.d)))

end Sys2Proof.Machine
end

