-- ==== Sys2Proof/Machine/RangeDecoder.lean ====
section
/-!
DEFINITION. The seven commands of the RD unit (40_range_decoder.md R63 to R82).
-/

namespace Sys2Proof.Machine

/-- RD_INIT's effect after its checks (40_range_decoder.md R65). The second underflow cannot
happen: BS_POS is 0 and BS_LEN at least 1. -/
def initDecoder (i : Instr) (s : State) : StepOutcome :=
  if s.bsLen = 0#32 then .next (s.raise .coderUnderflow (encode i))
  else
    match refill ((s.withCoder 0#32 255#8 (-8#4)).withBsPos 0#32) with
    | some s' => .next (s'.withRdValid true)
    | none => .next (s.raise .coderUnderflow (encode i))

/-- RD_INIT (40_range_decoder.md R65). -/
def execRdInit (s : State) : StepOutcome := checked .rdInit s (initDecoder .rdInit)

/-- RD_DECIDE (40_range_decoder.md R70): RESULT is the decided bit. -/
def execRdDecide (prob : BitVec 8) (s : State) : StepOutcome :=
  checked (.rdDecide prob) s fun s =>
    needsDecoder (.rdDecide prob) s (deciding (.rdDecide prob) (probOperand prob) bitWord)

/-- RD_DECIDE_EQ (40_range_decoder.md R71): RD_DECIDE with prob = 128. -/
def execRdDecideEq (s : State) : StepOutcome :=
  checked .rdDecideEq s fun s =>
    needsDecoder .rdDecideEq s (deciding .rdDecideEq equiprobable bitWord)

/-- RD_BITS after its checks (40_range_decoder.md R73): a starved decision leaves the decisions
before it in the RD registers and RESULT unchanged (60_exceptions.md R130). -/
def bitsCommand (i : Instr) (n : Nat) (s : State) : StepOutcome :=
  match decideBits n 0 s with
  | .done v s' => .next (s'.withResult (BitVec.ofNat 32 v))
  | .starved s' => .next (s'.raise .coderUnderflow (encode i))
  | .stuck => .fault .renormUndefined

/-- RD_BITS (40_range_decoder.md R73). -/
def execRdBits (n : BitVec 6) (s : State) : StepOutcome :=
  checked (.rdBits n) s fun s =>
    needsDecoder (.rdBits n) s (bitsCommand (.rdBits n) (bitCountOperand n))

/-- RD_SIGNED (40_range_decoder.md R74): bit 1 negates, in 32 bits. -/
def execRdSigned (v : BitVec 16) (s : State) : StepOutcome :=
  checked (.rdSigned v) s fun s =>
    needsDecoder (.rdSigned v) s
      (deciding (.rdSigned v) equiprobable fun b =>
        if b then 0#32 - signedOperand v else signedOperand v)

/-- RD_SAVE (40_range_decoder.md R75). -/
def execRdSave (s : State) : StepOutcome :=
  checked .rdSave s fun s =>
    needsDecoder .rdSave s fun s => .next (s.withSnap s.value s.range s.count)

/-- RD_RESTORE (40_range_decoder.md R76): a SNAP_RANGE below 128 raises BadSnapshot; RD_VALID is
not needed. -/
def execRdRestore (s : State) : StepOutcome :=
  checked .rdRestore s fun s =>
    if s.snapRange.toNat < 128 then .next (s.raise .badSnapshot (encode .rdRestore))
    else .next ((s.withCoder s.snapValue s.snapRange s.snapCount).withRdValid true)

end Sys2Proof.Machine
end

