-- ==== Sys2Proof/Machine/System.lean ====
section
/-!
DEFINITION. The two system commands (43_system_commands.md R121, R122).
-/

namespace Sys2Proof.Machine

/-- NOP (43_system_commands.md R121): no effect, with or without a recorded fault. -/
def execNop (s : State) : StepOutcome := checked .nop s fun s => .next s

/-- SOFT_RESET (43_system_commands.md R122): the only command that executes while FAULT ≠ 0
(60_exceptions.md R131). -/
def execSoftReset (s : State) : StepOutcome := .next s.softReset

end Sys2Proof.Machine
end

