-- ==== Sys2Proof/Machine/Dispatch.lean ====
section
/-!
DEFINITION. One arm per command, each one call of its meaning.
-/

namespace Sys2Proof.Machine

def exec (i : Instr) (s : State) : Host.Outcome State Fault Refusal :=
  match i with
  | .nop => Sys2Proof.Machine.execNop s
  | .rdInit => Sys2Proof.Machine.execRdInit s
  | .rdDecide prob => Sys2Proof.Machine.execRdDecide prob s
  | .rdDecideEq => Sys2Proof.Machine.execRdDecideEq s
  | .rdBits n => Sys2Proof.Machine.execRdBits n s
  | .rdSigned v => Sys2Proof.Machine.execRdSigned v s
  | .rdSave => Sys2Proof.Machine.execRdSave s
  | .rdRestore => Sys2Proof.Machine.execRdRestore s
  | .itDct size c => Sys2Proof.Machine.execItDct size c s
  | .itDst4 c => Sys2Proof.Machine.execItDst4 c s
  | .itSkip size c rot => Sys2Proof.Machine.execItSkip size c rot s
  | .itBypass size c rot => Sys2Proof.Machine.execItBypass size c rot s
  | .ipSubst size c => Sys2Proof.Machine.execIpSubst size c s
  | .ipFilter size c mode => Sys2Proof.Machine.execIpFilter size c mode s
  | .ipPlanar size c => Sys2Proof.Machine.execIpPlanar size c s
  | .ipDc size c nf => Sys2Proof.Machine.execIpDc size c nf s
  | .ipAng size c nf mode => Sys2Proof.Machine.execIpAng size c nf mode s
  | .ipRecon size c => Sys2Proof.Machine.execIpRecon size c s
  | .softReset => Sys2Proof.Machine.execSoftReset s

end Sys2Proof.Machine
end

