-- ==== Sys2Proof/Machine/HostPort.lean ====
section
/-!
DEFINITION. The register space as the host sees it (10_state.md R27, R28; 20_memory.md R34 to
R44), and what one move of the environment does.
-/

namespace Sys2Proof.Machine

/-- What a register index names (10_state.md R27). The buffers' argument is the entry y*32 + x. -/
inductive Reg where
  | cmd
  | status
  | result
  | faultInfo
  | cfg
  | bsBase
  | bsLen
  | bsPos
  | rdValue
  | rdRange
  | rdCount
  | snapValue
  | snapRange
  | snapCount
  | d (i : Nat)
  | res (i : Nat)
  | pred (i : Nat)
  | out (i : Nat)
  | ref (i : Nat)
  | reserved
deriving DecidableEq, Repr

/-- The registers below index 0x00E, in order (10_state.md R27). -/
def lowRegs : List Reg :=
  [.cmd, .status, .result, .faultInfo, .cfg, .bsBase, .bsLen, .bsPos,
   .rdValue, .rdRange, .rdCount, .snapValue, .snapRange, .snapCount]

/-- The register map (10_state.md R27). -/
def regAt (index : RegIndex) : Reg :=
  let i := index.toNat
  if i < 0x400 then lowRegs.getD i .reserved
  else if i < 0x800 then .d (i - 0x400)
  else if i < 0xC00 then .res (i - 0x800)
  else if i < 0x1000 then .pred (i - 0xC00)
  else if i < 0x1400 then .out (i - 0x1000)
  else if i ≤ 0x1480 then .ref (i - 0x1400)
  else .reserved

/-- CFG as the host reads it (10_state.md R19). -/
def cfgWord (s : State) : Word :=
  field (BitVec.ofBool s.strong) 8 ||| field s.bdC 4 ||| field s.bdY 0

/-- A REF entry as the host reads it: `avail` in bit 16, `val` in 15:0 (10_state.md R26). -/
def refWord (e : RefEntry) : Word := field (BitVec.ofBool e.avail) 16 ||| field e.val 0

/-- What a host read of a register returns (10_state.md R21 to R28). -/
def readReg (s : State) : Reg → Word
  | .cmd => 0#32
  | .status => statusWord s
  | .result => s.result
  | .faultInfo => s.faultInfo
  | .cfg => cfgWord s
  | .bsBase => s.bsBase
  | .bsLen => s.bsLen
  | .bsPos => s.bsPos
  | .rdValue => s.value
  | .rdRange => s.range.setWidth 32
  | .rdCount => s.count.signExtend 32
  | .snapValue => s.snapValue
  | .snapRange => s.snapRange.setWidth 32
  | .snapCount => s.snapCount.signExtend 32
  | .d i => (s.d.get i).signExtend 32
  | .res i => (s.res.get i).signExtend 32
  | .pred i => (s.pred.get i).setWidth 32
  | .out i => (s.out.get i).setWidth 32
  | .ref i => refWord (s.ref.get i)
  | .reserved => 0#32

/-- A bit depth as CFG stores it: below 8 it stores 8 (10_state.md R19). -/
def storedDepth (d : BitVec 4) : BitVec 4 := if d.toNat < 8 then 8#4 else d

/-- CFG written (10_state.md R19). -/
def State.withCfg (s : State) (data : Word) : State :=
  { s with
    bdY := storedDepth (data.extractLsb' 0 4)
    bdC := storedDepth (data.extractLsb' 4 4)
    strong := data.getLsbD 8 }

/-- BS_BASE, BS_LEN and BS_POS written by the host (10_state.md R20). -/
def State.withWindow (s : State) (base len pos : BitVec 32) : State :=
  { s with bsBase := base, bsLen := len, bsPos := pos }

/-- The word a read puts on the host's data lines (log entry 4). -/
def State.withHostData (s : State) (w : Word) : State := { s with hostData := w }

/-- A host write to a register other than CMD: it changes only the register written, narrowed
(20_memory.md R42, 10_state.md R19 to R26); reserved and read-only registers ignore it
(10_state.md R28). -/
def writeReg (s : State) (data : Word) : Reg → State
  | .cmd => s
  | .status => s
  | .result => s
  | .faultInfo => s
  | .cfg => s.withCfg data
  | .bsBase => s.withWindow data s.bsLen s.bsPos
  | .bsLen => s.withWindow s.bsBase data s.bsPos
  | .bsPos => s.withWindow s.bsBase s.bsLen data
  | .rdValue => s
  | .rdRange => s
  | .rdCount => s
  | .snapValue => s.withSnap data s.snapRange s.snapCount
  | .snapRange => s.withSnap s.snapValue (data.extractLsb' 0 8) s.snapCount
  | .snapCount => s.withSnap s.snapValue s.snapRange (data.extractLsb' 0 4)
  | .d i => s.withD (s.d.set i (data.extractLsb' 0 16))
  | .res i => s.withRes (s.res.set i (data.extractLsb' 0 16))
  | .pred i => s.withPred (s.pred.set i (data.extractLsb' 0 16))
  | .out _ => s
  | .ref i => s.withRef (s.ref.set i ⟨data.getLsbD 16, data.extractLsb' 0 16⟩)
  | .reserved => s

/-- A write of a word to CMD (30_encoding.md R48): a legal word runs its command; an illegal word
raises IllegalCommand (30_encoding.md R57), but is discarded while a fault is recorded
(60_exceptions.md R131). -/
def writeCommand (s : State) (w : Word) : StepOutcome :=
  match decode w with
  | .ok i => exec i s
  | .error _ => if s.faulted then .next s else .next (s.raise .illegalCommand w)

/-- A host write to a register index: to CMD it executes a command (20_memory.md R42). -/
def hostWrite (s : State) (index : RegIndex) (data : Word) : StepOutcome :=
  match regAt index with
  | .cmd => writeCommand s data
  | r => .next (writeReg s data r)

/-- A host read of a register index: no side effect (20_memory.md R42), the word read goes to the
host's data lines. -/
def hostRead (s : State) (index : RegIndex) : State := s.withHostData (readReg s (regAt index))

/-- One move of the environment, whole, before anything else happens (20_memory.md R44). -/
def busEvent (s : State) : BusEvent → StepOutcome
  | .write index data => hostWrite s index data
  | .read index => .next (hostRead s index)
  | .memWrite addr byte => .next (s.withMemByte addr byte)
  | .hardReset => .next s.hardReset

/-- The pending moves replaced. -/
def State.withBus (s : State) (b : List BusEvent) : State := { s with bus := b }

/-- The move that writes the word `w` of `nbits` bits to CMD: the word has the bits above `nbits`
zero (register index 0x000, 30_encoding.md R48). -/
def commandEvent (nbits w : Nat) : BusEvent := .write 0#13 (BitVec.ofNat 32 (w % 2 ^ nbits))

end Sys2Proof.Machine
end

