-- ==== Sys2Proof/Machine/Step.lean ====
section
/-!
DEFINITION. The step: the next pending move of the environment is taken off the queue and
performed whole (20_memory.md R44); with none pending the block waits and nothing changes
(70_reset_and_hazards.md R142, R151). Log entry 3.
-/

namespace Sys2Proof.Machine

/-- One step. -/
def step (s : State) : Host.Outcome State Fault Refusal :=
  match s.bus with
  | [] => .next s
  | e :: rest => busEvent (s.withBus rest) e

/-- The state with the write of the word to CMD as its very next move, so that `step` runs that
command (log entry 3). -/
def State.withFetchWord (s : State) (nbits w : Nat) : State :=
  s.withBus (commandEvent nbits w :: s.bus)

end Sys2Proof.Machine
end

