-- ==== Sys2Proof/Safety.lean ====
section
/-!
DEFINITION. What counts as a safe state and a safe run, in the terms the statements use: the
invariant of reachable states (10_state.md R33), the value invariant of the range decoder
(40_range_decoder.md R81), and the states whose step does not stop.
-/

namespace Sys2Proof.Machine

/-- The invariant of reachable states (10_state.md R33): RANGE is in [128, 255], BD_Y and BD_C are
in [8, 15], FAULT is a code of 60_exceptions.md R126; with it the bitstream memory's canonical
form and IP_FILT's three values (10_state.md R17). COUNT is in [-8, 7] by its width. -/
structure State.Inv (s : State) : Prop where
  range_ge : 128 ≤ s.range.toNat
  bdY_ge : 8 ≤ s.bdY.toNat
  bdC_ge : 8 ≤ s.bdC.toNat
  fault_le : s.fault.toNat ≤ 4
  ipFilt_le : s.ipFilt.toNat ≤ 2
  mem_wf : Memory.wf s.mem = true

/-- The value invariant INV (40_range_decoder.md R81): `VALUE < RANGE << COUNT` when COUNT ≥ 0 and
`VALUE << (-COUNT) < RANGE` when COUNT < 0. -/
def State.ValueInv (s : State) : Prop :=
  if 0 ≤ s.count.toInt then s.value.toNat < s.range.toNat * 2 ^ s.count.toInt.toNat
  else s.value.toNat * 2 ^ (-s.count.toInt).toNat < s.range.toNat

/-- The step from `s` does not stop. -/
def State.Safe (s : State) : Prop := ∃ t, step s = .next t

/-- `t` follows from `s` by some number of steps. -/
inductive Reaches : State → State → Prop where
  | refl (s : State) : Reaches s s
  | step {s t u : State} : Reaches s t → step t = .next u → Reaches s u

end Sys2Proof.Machine
end

