-- ==== Sys2Proof/Certificates/Slice0/Obligations.lean ====
section
/-!
DEFINITION. The statements for the provers, and before them the spec's formulas on plain numbers
that the statements compare the machine with. None of the formulas calls a meaning or a shared
operation of Machine/; the tables of Machine/Params.lean are the spec's parameters and are used
as they stand (their contents are stated by `CosineMatrixFollowsGeneratingRule` and
`PredictionTablesAsListed`).

Where a statement names a pending move (the field `bus`), the host's data lines (`hostData`) or the
count of resets (`resets`), that is the MODEL's own form of what the spec says of the environment:
log entries 3 to 7.
-/

open Sys2Proof Sys2Proof.Machine

namespace Sys2Proof.Spec

/-! ### Numbers -/

/-- `Clip3(lo, hi, v)` for `lo ≤ hi` (00_scope.md R7). -/
def clip (lo hi v : Int) : Int := max lo (min hi v)

/-- Entry (x, y) of a signed buffer, at index y*32 + x (10_state.md R22, R23). -/
def signedAt (b : Block) (x y : Nat) : Int := (b.get (y * 32 + x)).toInt

/-- Entry (x, y) of an unsigned buffer, at index y*32 + x (10_state.md R24, R25). -/
def unsignedAt (b : Block) (x y : Nat) : Int := ((b.get (y * 32 + x)).toNat : Int)

/-- bitDepth of a component (10_state.md R19). -/
def depthOf (s : State) : Component → Nat
  | .luma => s.bdY.toNat
  | .chroma => s.bdC.toNat

/-! ### The opcode map -/

/-- A row of the opcode map (30_encoding.md R56): a word `w` selects it when `w & mask = pattern`
and the field limits hold. -/
structure OpcodeRow where
  mask : Nat
  pattern : Nat
  limit : Nat → Bool

/-- `log2n` in 2..5, the field in bits 2:0. -/
def log2nLegal (w : Nat) : Bool := 2 ≤ w % 8 && w % 8 ≤ 5

/-- The operand `mode`, in bits 10:5. -/
def modeField (w : Nat) : Nat := w / 32 % 64

/-- `rot = 1` (bit 4) only with `log2n = 2`. -/
def rotLegal (w : Nat) : Bool := w / 16 % 2 == 0 || w % 8 == 2

/-- The 19 rows of 30_encoding.md R56, in its order. -/
def opcodeRows : List OpcodeRow :=
  [⟨0xFFFFFFFF, 0x00000000, fun _ => true⟩,
   ⟨0xFFFFFFFF, 0x01000000, fun _ => true⟩,
   ⟨0xFFFFFF00, 0x02000000, fun _ => true⟩,
   ⟨0xFFFFFFFF, 0x03000000, fun _ => true⟩,
   ⟨0xFFFFFFC0, 0x04000000, fun w => w % 64 ≤ 32⟩,
   ⟨0xFFFF0000, 0x05000000, fun _ => true⟩,
   ⟨0xFFFFFFFF, 0x06000000, fun _ => true⟩,
   ⟨0xFFFFFFFF, 0x07000000, fun _ => true⟩,
   ⟨0xFFFFFFF0, 0x10000000, log2nLegal⟩,
   ⟨0xFFFFFFF7, 0x11000002, fun _ => true⟩,
   ⟨0xFFFFFFE0, 0x12000000, fun w => log2nLegal w && rotLegal w⟩,
   ⟨0xFFFFFFE0, 0x13000000, fun w => log2nLegal w && rotLegal w⟩,
   ⟨0xFFFFFFF0, 0x20000000, log2nLegal⟩,
   ⟨0xFFFFF810, 0x21000000, fun w => log2nLegal w && modeField w ≤ 34⟩,
   ⟨0xFFFFFFF0, 0x22000000, log2nLegal⟩,
   ⟨0xFFFFFFE0, 0x23000020, log2nLegal⟩,
   ⟨0xFFFFF800, 0x24000000, fun w => log2nLegal w && 2 ≤ modeField w && modeField w ≤ 34⟩,
   ⟨0xFFFFFFF0, 0x25000000, log2nLegal⟩,
   ⟨0xFFFFFFFF, 0x7F000000, fun _ => true⟩]

/-- The word selects the row. -/
def OpcodeRow.selects (row : OpcodeRow) (w : Word) : Prop :=
  w &&& BitVec.ofNat 32 row.mask = BitVec.ofNat 32 row.pattern ∧ row.limit w.toNat = true

/-- The place of a command's row in `opcodeRows`. -/
def rowIndex : Instr → Nat
  | .nop => 0
  | .rdInit => 1
  | .rdDecide _ => 2
  | .rdDecideEq => 3
  | .rdBits _ => 4
  | .rdSigned _ => 5
  | .rdSave => 6
  | .rdRestore => 7
  | .itDct _ _ => 8
  | .itDst4 _ => 9
  | .itSkip _ _ _ => 10
  | .itBypass _ _ _ => 11
  | .ipSubst _ _ => 12
  | .ipFilter _ _ _ => 13
  | .ipPlanar _ _ => 14
  | .ipDc _ _ _ => 15
  | .ipAng _ _ _ _ => 16
  | .ipRecon _ _ => 17
  | .softReset => 18

/-! ### The range decoder on numbers (40_range_decoder.md) -/

/-- VALUE, RANGE, COUNT and BS_POS as numbers. -/
structure Coder where
  value : Nat
  range : Nat
  count : Int
  pos : Nat
deriving DecidableEq, Repr

/-- The decoder a state holds. -/
def coder (s : State) : Coder := ⟨s.value.toNat, s.range.toNat, s.count.toInt, s.bsPos.toNat⟩

/-- The byte of the window at offset `p` from BS_BASE, modulo 2^32 (20_memory.md R38). -/
def windowByte (s : State) (p : Nat) : Nat := (memRead s (s.bsBase + BitVec.ofNat 32 p)).toNat

/-- Refill (R66) on a window of `len` bytes; none when `pos ≥ len`. -/
def refill (byte : Nat → Nat) (len : Nat) (c : Coder) : Option Coder :=
  if len ≤ c.pos then none
  else some ⟨(c.value * 256 + byte c.pos) % 2 ^ 32, c.range, c.count + 8, c.pos + 1⟩

/-- Steps 2 and 3 of a decision (R68, R69). -/
def decideFilled (prob : Nat) (c : Coder) : Bool × Coder :=
  let r := c.range - 1
  let split := r * prob / 256
  let top := c.value / 2 ^ c.count.toNat
  let rng := if split < top then r - split else split + 1
  let shift := 7 - Nat.log2 rng
  (decide (split < top),
   ⟨if split < top then c.value - (split + 1) * 2 ^ c.count.toNat else c.value,
    rng * 2 ^ shift, c.count - shift, c.pos⟩)

/-- A decision (R67 to R69); none when it is starved. -/
def decideBit (byte : Nat → Nat) (len prob : Nat) (c : Coder) : Option (Bool × Coder) :=
  if c.count < 0 then (refill byte len c).map (decideFilled prob)
  else some (decideFilled prob c)

/-- `k` equiprobable decisions in sequence: the bits in order and the decoder after them; none
when one of them is starved. -/
def decideMany (byte : Nat → Nat) (len : Nat) : Nat → Coder → Option (List Bool × Coder)
  | 0, c => some ([], c)
  | k + 1, c =>
    match decideBit byte len 128 c with
    | none => none
    | some (b, c') => (decideMany byte len k c').map fun p => (b :: p.1, p.2)

/-- Bits as a number, the first one most significant (R73). -/
def msbFirst (bits : List Bool) : Nat := bits.foldl (fun v b => 2 * v + b.toNat) 0

/-- A decision can be made: no refill is needed, or the window has a byte left (R67). -/
def CanDecide (s : State) : Prop := 0 ≤ s.count.toInt ∨ s.bsPos.toNat < s.bsLen.toNat

/-- With COUNT < 0, RANGE is a multiple of `2^(-COUNT)`: the interval ends on a bit already
fetched. -/
def RangeAligned (s : State) : Prop :=
  s.count.toInt < 0 → 2 ^ (-s.count.toInt).toNat ∣ s.range.toNat

/-- The branch-free equiprobable update (R72), `m` its mask. -/
def fastPath (c : Coder) : Bool × Coder :=
  let r := c.range - 1
  let split := r / 2
  let m := decide (split < c.value / 2 ^ c.count.toNat)
  (m, ⟨c.value - (if m then split + 1 else 0) * 2 ^ c.count.toNat,
       ((if m then r - 1 else r) ||| 1) + 1, c.count - 1, c.pos⟩)

/-- The commands that decide bits, with the number of decisions each makes. -/
def decisions : Instr → Nat
  | .rdDecide _ => 1
  | .rdDecideEq => 1
  | .rdSigned _ => 1
  | .rdBits n => n.toNat
  | _ => 0

/-! ### The inverse transform on numbers (41_inverse_transform.md) -/

/-- Pass 1 of R88 at (x, y): column x, along y. -/
def columnPass (n : Nat) (m : Nat → Nat → Int) (d : Block) (x y : Nat) : Int :=
  clip (-32768) 32767 ((∑ j ∈ Finset.range n, m j y * signedAt d x j + 64) / 128)

/-- Both passes of R88 at (x, y), SHIFT2 = 20 - bitDepth. -/
def transform (n : Nat) (m : Nat → Nat → Int) (depth : Nat) (d : Block) (x y : Nat) : Int :=
  clip (-32768) 32767
    ((∑ j ∈ Finset.range n, m j x * columnPass n m d j y + 2 ^ (20 - depth - 1)) /
      2 ^ (20 - depth))

/-- The coefficient position (x, y) takes (R90, R91): turned by 180 degrees when `rot`. -/
def coefficient (n : Nat) (rot : Bool) (d : Block) (x y : Nat) : Int :=
  if rot then signedAt d (n - 1 - x) (n - 1 - y) else signedAt d x y

/-- The generating rule of TM (R85): the list `C` and the four quarters of the period 128. -/
def cosineList : List Int :=
  [64, 90, 90, 90, 89, 88, 87, 85, 83, 82, 80, 78, 75, 73, 70, 67, 64, 61, 57, 54, 50, 46, 43,
   38, 36, 31, 25, 22, 18, 13, 9, 4, 0]

/-- TM by the generating rule (R85). -/
def generatedTm (k n : Nat) : Int :=
  let m := k * (2 * n + 1) % 128
  if k = 0 then 64
  else if m ≤ 32 then cosineList.getD m 0
  else if m ≤ 64 then -cosineList.getD (64 - m) 0
  else if m < 96 then -cosineList.getD (m - 64) 0
  else cosineList.getD (128 - m) 0

/-! ### Intra prediction on numbers (42_intra_prediction.md) -/

/-- `REF[i].val`. -/
def refVal (r : RefLine) (i : Nat) : Int := ((r.get i).val.toNat : Int)

/-- `p[-1][y] = REF[2N-1-y].val`, `y` from -1 (R99). -/
def left (r : RefLine) (n : Nat) (y : Int) : Int := refVal r (2 * n - 1 - y).toNat

/-- `p[x][-1] = REF[2N+1+x].val`, `x` from -1 (R99). -/
def top (r : RefLine) (n : Nat) (x : Int) : Int := refVal r (2 * n + 1 + x).toNat

/-- The smoothing threshold of R101. -/
def threshold : BlockSize → Nat
  | .n4 => 0
  | .n8 => 7
  | .n16 => 1
  | .n32 => 0

/-- filterFlag = 1 (R101). -/
def Filters (size : BlockSize) (mode : Nat) : Prop :=
  mode ≠ 1 ∧ size ≠ .n4 ∧
    threshold size < min ((mode : Int) - 26).natAbs ((mode : Int) - 10).natAbs

/-- The strong filter's conditions besides filterFlag (R102). -/
def StrongChosen (s : State) (size : BlockSize) (c : Component) : Prop :=
  s.strong = true ∧ c = .luma ∧ size = .n32 ∧
  |top s.ref 32 (-1) + top s.ref 32 63 - 2 * top s.ref 32 31| < 2 ^ (s.bdY.toNat - 5) ∧
  |top s.ref 32 (-1) + left s.ref 32 63 - 2 * left s.ref 32 31| < 2 ^ (s.bdY.toNat - 5)

/-- The planar value (R106). -/
def planar (size : BlockSize) (r : RefLine) (x y : Nat) : Int :=
  ((size.n - 1 - x) * left r size.n y + (x + 1) * top r size.n size.n
    + (size.n - 1 - y) * top r size.n x + (y + 1) * left r size.n size.n + size.n)
    / 2 ^ (size.log2 + 1)

/-- dcVal (R107). -/
def dcVal (size : BlockSize) (r : RefLine) : Int :=
  (∑ x ∈ Finset.range size.n, top r size.n x + ∑ y ∈ Finset.range size.n, left r size.n y
    + size.n) / 2 ^ (size.log2 + 1)

/-- The condition of the boundary filters: `c = 0`, `N < 32`, `nf = 0` (R107, R114, R117). -/
def boundaryOn (size : BlockSize) (c : Component) (nf : Bool) : Bool :=
  c == .luma && size != .n32 && !nf

/-- The DC sample (R107) with the edge correction (R108) where `edge`. -/
def dcSample (size : BlockSize) (r : RefLine) (edge : Bool) (x y : Nat) : Int :=
  if edge ∧ x = 0 ∧ y = 0 then
    (left r size.n 0 + 2 * dcVal size r + top r size.n 0 + 2) / 4
  else if edge ∧ y = 0 then (top r size.n x + 3 * dcVal size r + 2) / 4
  else if edge ∧ x = 0 then (left r size.n y + 3 * dcVal size r + 2) / 4
  else dcVal size r

/-- The reference array of modes 18 to 34 (R112). -/
def verticalRef (r : RefLine) (n mode : Nat) (k : Int) : Int :=
  if 0 ≤ k then top r n (-1 + k) else left r n (-1 + (k * invAngle mode + 128) / 256)

/-- The reference array of modes 2 to 17 (R115). -/
def horizontalRef (r : RefLine) (n mode : Nat) (k : Int) : Int :=
  if 0 ≤ k then left r n (-1 + k) else top r n (-1 + (k * invAngle mode + 128) / 256)

/-- The two-tap interpolation (R113, R116) with displacement `d = (distance) * ANGLE`. -/
def interpolate (ref : Int → Int) (d : Int) (along : Nat) : Int :=
  if d % 32 ≠ 0 then
    ((32 - d % 32) * ref (along + d / 32 + 1) + d % 32 * ref (along + d / 32 + 2) + 16) / 32
  else ref (along + d / 32 + 1)

/-- The angular sample at (x, y) (R113, R114, R116, R117, R118), the boundary filters where
`edge`. -/
def angular (size : BlockSize) (r : RefLine) (depth mode : Nat) (edge : Bool)
    (x y : Nat) : Int :=
  if 18 ≤ mode then
    if mode = 26 ∧ edge ∧ x = 0 then
      clip 0 (2 ^ depth - 1)
        (top r size.n 0 + (left r size.n y - left r size.n (-1)) / 2)
    else interpolate (verticalRef r size.n mode) ((y + 1) * angle mode) x
  else
    if mode = 10 ∧ edge ∧ y = 0 then
      clip 0 (2 ^ depth - 1)
        (left r size.n 0 + (top r size.n x - left r size.n (-1)) / 2)
    else interpolate (horizontalRef r size.n mode) ((x + 1) * angle mode) y

/-- PRED after a prediction command: the corner holds `f`, the rest is kept. -/
def Predicts (size : BlockSize) (s t : State) (f : Nat → Nat → Int) : Prop :=
  t = { s with pred := t.pred } ∧
  ∀ x < 32, ∀ y < 32, unsignedAt t.pred x y =
    if x < size.n ∧ y < size.n then f x y else unsignedAt s.pred x y

/-- RES after an IT command: the corner holds `f`, the rest is kept. -/
def Transforms (size : BlockSize) (s t : State) (f : Nat → Nat → Int) : Prop :=
  t = { s with res := t.res } ∧
  ∀ x < 32, ∀ y < 32, signedAt t.res x y =
    if x < size.n ∧ y < size.n then f x y else signedAt s.res x y

end Sys2Proof.Spec

/-! ## Encoding -/

/-- A few words written out from the encodings of 30_encoding.md decode to their commands, and
words of R57 and R58 are illegal. -/
def Obligations.SpecWordsDecode : Prop :=
  decode 0x00000000#32 = .ok .nop ∧
  decode 0x020000C8#32 = .ok (.rdDecide 200#8) ∧
  decode 0x04000005#32 = .ok (.rdBits 5#6) ∧
  decode 0x0500FFF9#32 = .ok (.rdSigned (-7#16)) ∧
  decode 0x1100000A#32 = .ok (.itDst4 .chroma) ∧
  decode 0x12000012#32 = .ok (.itSkip .n4 .luma true) ∧
  decode 0x24000353#32 = .ok (.ipAng .n8 .luma true 26#6) ∧
  decode 0x7F000000#32 = .ok .softReset ∧
  decode 0x08000000#32 = .error .unassignedOpcode ∧
  decode 0x02000100#32 = .error .reservedBit ∧
  decode 0x12000013#32 = .error .fieldLimit

/-- Decoding the encoded word of a command that keeps the field limits gives it back, every
operand at every value. -/
def Obligations.DecodeOfEncode : Prop :=
  ∀ i : Instr, i.WellFormed → decode (encode i) = .ok i

/-- A word that decodes is the encoding of the command it decodes to, which keeps the field
limits: no two words are one command. -/
def Obligations.EncodeOfDecode : Prop :=
  ∀ (w : Word) (i : Instr), decode w = .ok i → i.WellFormed ∧ encode i = w

/-- The decoder against the opcode map of R56: the row a legal word selects is its command's and
no other, and an illegal word selects none. -/
def Obligations.DecodeFollowsOpcodeMap : Prop :=
  ∀ w : Word,
    (∀ i, decode w = .ok i → ∀ k row, Spec.opcodeRows[k]? = some row →
      (row.selects w ↔ k = Spec.rowIndex i)) ∧
    (∀ e, decode w = .error e → ∀ row ∈ Spec.opcodeRows, ¬ row.selects w)

/-- A command term that breaks a field limit has a word the decoder refuses for that reason, and
executing it raises IllegalCommand. The MODEL's choice for such terms, log entry 13 (R57 speaks of
words). -/
def Obligations.IllFormedCommandIsIllegal : Prop :=
  ∀ (i : Instr) (s : State), i.wf = false → s.fault = 0#8 →
    decode (encode i) = .error .fieldLimit ∧
    exec i s = .next { s with fault := 2#8, faultInfo := encode i }

/-! ## The step -/

/-- When the next move writes to CMD a word that decodes to `i`, the step is `exec i` with that
move taken off the queue. -/
def Obligations.StepRunsDecodedCommand : Prop :=
  ∀ (s : State) (w : Word) (rest : List BusEvent) (i : Instr),
    s.bus = .write 0#13 w :: rest → decode w = .ok i → step s = exec i { s with bus := rest }

/-- A word that selects no row of R56, written to CMD with FAULT = 0, raises IllegalCommand and
changes no other state (R57). -/
def Obligations.IllegalWordRaisesIllegalCommand : Prop :=
  ∀ (s : State) (w : Word) (rest : List BusEvent),
    s.bus = .write 0#13 w :: rest → s.fault = 0#8 → (∀ row ∈ Spec.opcodeRows, ¬ row.selects w) →
    step s = .next { s with bus := rest, fault := 2#8, faultInfo := w }

/-- While FAULT ≠ 0 a write to CMD of any word but SOFT_RESET's changes nothing, legal or not;
host writes to the other registers do what they do with FAULT = 0 and keep the fault record; host
reads change nothing but the host's data lines, and of every register but STATUS return what they
return with FAULT = 0 (R131). -/
def Obligations.RecordedFaultDiscardsCommands : Prop :=
  ∀ (s : State) (rest : List BusEvent), s.fault ≠ 0#8 →
    (∀ w, w ≠ 0x7F000000#32 →
      step { s with bus := .write 0#13 w :: rest } = .next { s with bus := rest }) ∧
    (∀ index data, index ≠ 0#13 →
      ∃ t, step { s with bus := .write index data :: rest } = .next t ∧
        t.fault = s.fault ∧ t.faultInfo = s.faultInfo ∧
        step { s with fault := 0#8, bus := .write index data :: rest } =
          .next { t with fault := 0#8 }) ∧
    (∀ index, ∃ w,
      step { s with bus := .read index :: rest } = .next { s with bus := rest, hostData := w } ∧
      (index ≠ 1#13 → step { s with fault := 0#8, bus := .read index :: rest } =
        .next { s with fault := 0#8, bus := rest, hostData := w }))

/-- A recorded fault is kept, code and word, by every step but two: a SOFT_RESET, which leaves the
buffers as they are, and a hardware reset; both clear it and leave the RD unit uninitialised
(R133). -/
def Obligations.FaultClearedOnlyByReset : Prop :=
  ∀ s t : State, step s = .next t → s.fault ≠ 0#8 →
    if s.bus.head? = some (.write 0#13 0x7F000000#32) then
      t.fault = 0#8 ∧ t.rdValid = false ∧
      t.d = s.d ∧ t.res = s.res ∧ t.pred = s.pred ∧ t.out = s.out ∧ t.ref = s.ref
    else if s.bus.head? = some .hardReset then t.fault = 0#8 ∧ t.rdValid = false
    else t.fault = s.fault ∧ t.faultInfo = s.faultInfo

/-! ## Faults -/

/-- The five commands of R64 (3) raise RdNotInit when RD_VALID = 0, RD_BITS 0 among them, and
change nothing else. -/
def Obligations.RdNotInitWithoutDecoder : Prop :=
  ∀ (i : Instr) (s : State), i.WellFormed → s.fault = 0#8 → s.rdValid = false →
    ((∃ prob, i = .rdDecide prob) ∨ i = .rdDecideEq ∨ (∃ n, i = .rdBits n) ∨
      (∃ v, i = .rdSigned v) ∨ i = .rdSave) →
    exec i s = .next { s with fault := 3#8, faultInfo := encode i }

/-- A deciding command whose first decision needs a byte the window does not have raises
CoderUnderflow and changes nothing else (R67, R130). -/
def Obligations.StarvedFirstDecisionUnderflows : Prop :=
  ∀ (i : Instr) (s : State), i.WellFormed → 1 ≤ Spec.decisions i → s.fault = 0#8 →
    s.rdValid = true → s.count.toInt < 0 → s.bsLen.toNat ≤ s.bsPos.toNat →
    exec i s = .next { s with fault := 1#8, faultInfo := encode i }

/-! ## System commands and reset -/

/-- NOP changes nothing (R121), whether or not a fault is recorded. -/
def Obligations.NopChangesNothing : Prop :=
  ∀ s : State, exec .nop s = .next s

/-- SOFT_RESET gives every register its reset value and leaves the buffers as they are (R122),
whether or not a fault is recorded; the memory and the pending moves are not the block's. -/
def Obligations.SoftResetSetsRegisters : Prop :=
  ∀ s : State, exec .softReset s = .next
    { s with
      value := 0#32, range := 255#8, count := -8#4,
      bsBase := 0#32, bsLen := 0#32, bsPos := 0#32,
      snapValue := 0#32, snapRange := 0#8, snapCount := 0#4,
      result := 0#32, fault := 0#8, rdValid := false, ipFilt := 0#2, faultInfo := 0#32,
      bdY := 8#4, bdC := 8#4, strong := false }

/-- The hardware reset gives every register the value of R143's table and does not change the
bitstream memory; the buffers are unspecified, so the statement says nothing of them. The MODEL's
own, no rule of the spec: the reset as one atomic move (log entry 6), taken off the queue of
pending moves (log entry 3), the host's data lines kept (log entry 4), and the count of resets one
higher (log entry 5). -/
def Obligations.HardResetSetsRegisters : Prop :=
  ∀ (s : State) (rest : List BusEvent), s.bus = .hardReset :: rest →
    ∃ t, step s = .next t ∧
      t = { s with
            value := 0#32, range := 255#8, count := -8#4,
            bsBase := 0#32, bsLen := 0#32, bsPos := 0#32,
            snapValue := 0#32, snapRange := 0#8, snapCount := 0#4,
            result := 0#32, fault := 0#8, rdValid := false, ipFilt := 0#2, faultInfo := 0#32,
            bdY := 8#4, bdC := 8#4, strong := false,
            d := t.d, res := t.res, pred := t.pred, out := t.out, ref := t.ref,
            bus := rest, resets := s.resets + 1 }

/-- The registers of the reset state hold the values of R143's table. -/
def Obligations.ResetStateHoldsResetValues : Prop :=
  State.reset.fault = 0#8 ∧ State.reset.rdValid = false ∧ State.reset.ipFilt = 0#2 ∧
  State.reset.result = 0#32 ∧ State.reset.faultInfo = 0#32 ∧
  State.reset.bdY = 8#4 ∧ State.reset.bdC = 8#4 ∧ State.reset.strong = false ∧
  State.reset.bsBase = 0#32 ∧ State.reset.bsLen = 0#32 ∧ State.reset.bsPos = 0#32 ∧
  State.reset.value = 0#32 ∧ State.reset.range = 255#8 ∧ State.reset.count.toInt = -8 ∧
  State.reset.snapValue = 0#32 ∧ State.reset.snapRange = 0#8 ∧ State.reset.snapCount = 0#4

/-! ## The range decoder -/

/-- RD_INIT on a window that is not empty: VALUE is its first byte, RANGE 255, COUNT 0, BS_POS 1,
RD_VALID 1, and nothing else changes; on an empty window it raises CoderUnderflow and changes
nothing else (R65). -/
def Obligations.RdInitLoadsFirstByte : Prop :=
  ∀ s : State, s.fault = 0#8 →
    (s.bsLen ≠ 0#32 → exec .rdInit s = .next
      { s with value := (memRead s s.bsBase).setWidth 32, range := 255#8, count := 0#4,
               bsPos := 1#32, rdValid := true }) ∧
    (s.bsLen = 0#32 → exec .rdInit s = .next
      { s with fault := 1#8, faultInfo := 0x01000000#32 })

/-- RD_DECIDE makes one decision with its probability: refill on entry, split, compare,
renormalise; RESULT is the bit; nothing else changes. Starved of the byte it needs, it raises
CoderUnderflow and changes nothing else (R66 to R70). -/
def Obligations.RdDecideMakesDecision : Prop :=
  ∀ (prob : BitVec 8) (s : State), s.fault = 0#8 → s.rdValid = true → 128 ≤ s.range.toNat →
    (Spec.CanDecide s →
      ∃ t b, exec (.rdDecide prob) s = .next t ∧
        Spec.decideBit (Spec.windowByte s) s.bsLen.toNat prob.toNat (Spec.coder s) =
          some (b, Spec.coder t) ∧
        t.result.toNat = b.toNat ∧
        t = { s with value := t.value, range := t.range, count := t.count, bsPos := t.bsPos,
                     result := t.result }) ∧
    (¬ Spec.CanDecide s → exec (.rdDecide prob) s = .next
      { s with fault := 1#8, faultInfo := 0x02000000#32 ||| prob.setWidth 32 })

/-- RD_DECIDE_EQ makes the decision with prob = 128, and does in every respect what RD_DECIDE 128
does, a fault recording its own word (R71). -/
def Obligations.RdDecideEqMakesEvenDecision : Prop :=
  ∀ s : State, s.fault = 0#8 → 128 ≤ s.range.toNat →
    (s.rdValid = true → Spec.CanDecide s →
      ∃ t b, exec .rdDecideEq s = .next t ∧
        Spec.decideBit (Spec.windowByte s) s.bsLen.toNat 128 (Spec.coder s) =
          some (b, Spec.coder t) ∧
        t.result.toNat = b.toNat ∧
        t = { s with value := t.value, range := t.range, count := t.count, bsPos := t.bsPos,
                     result := t.result }) ∧
    ∃ t u, exec .rdDecideEq s = .next t ∧ exec (.rdDecide 128#8) s = .next u ∧
      t = { u with faultInfo := if u.fault = 0#8 then u.faultInfo else 0x03000000#32 }

/-- RD_SIGNED makes one equiprobable decision and writes `v`, or `-v` when the bit is 1, as a
32-bit two's complement word; `v = -32768` negated is +32768. Starved of the byte it needs, it
raises CoderUnderflow and changes nothing else (R74). -/
def Obligations.RdSignedSelectsSign : Prop :=
  ∀ (v : BitVec 16) (s : State), s.fault = 0#8 → s.rdValid = true → 128 ≤ s.range.toNat →
    (Spec.CanDecide s →
      ∃ t b, exec (.rdSigned v) s = .next t ∧
        Spec.decideBit (Spec.windowByte s) s.bsLen.toNat 128 (Spec.coder s) =
          some (b, Spec.coder t) ∧
        t.result.toInt = (if b then -v.toInt else v.toInt) ∧
        t = { s with value := t.value, range := t.range, count := t.count, bsPos := t.bsPos,
                     result := t.result }) ∧
    (¬ Spec.CanDecide s → exec (.rdSigned v) s = .next
      { s with fault := 1#8, faultInfo := 0x05000000#32 ||| v.setWidth 32 })

/-- RD_BITS n makes `n` equiprobable decisions and writes their bits, the first most significant;
`n = 0` decides nothing, fetches nothing and writes 0. Starved at a later decision, the decisions
before it are applied to VALUE, RANGE, COUNT and BS_POS, the starved one is not, RESULT is
unchanged and CoderUnderflow is raised (R73). -/
def Obligations.RdBitsAssemblesBits : Prop :=
  ∀ (n : BitVec 6) (s : State), n.toNat ≤ 32 → s.fault = 0#8 → s.rdValid = true →
    128 ≤ s.range.toNat →
    (∀ bits c,
      Spec.decideMany (Spec.windowByte s) s.bsLen.toNat n.toNat (Spec.coder s) = some (bits, c) →
      ∃ t, exec (.rdBits n) s = .next t ∧ Spec.coder t = c ∧
        t.result.toNat = Spec.msbFirst bits ∧
        t = { s with value := t.value, range := t.range, count := t.count, bsPos := t.bsPos,
                     result := t.result }) ∧
    (∀ j bits c, j < n.toNat →
      Spec.decideMany (Spec.windowByte s) s.bsLen.toNat j (Spec.coder s) = some (bits, c) →
      Spec.decideBit (Spec.windowByte s) s.bsLen.toNat 128 c = none →
      ∃ t, exec (.rdBits n) s = .next t ∧ Spec.coder t = c ∧
        t = { s with value := t.value, range := t.range, count := t.count, bsPos := t.bsPos,
                     fault := 1#8, faultInfo := 0x04000000#32 ||| n.setWidth 32 })

/-- RD_BITS n completes, with no fault, when the window holds the bytes its decisions can need:
`n - 1 - COUNT` bits beyond those present, by the count of R82. -/
def Obligations.RdBitsCompletesWithEnoughBytes : Prop :=
  ∀ (n : BitVec 6) (s : State), n.toNat ≤ 32 → s.fault = 0#8 → s.rdValid = true →
    128 ≤ s.range.toNat →
    (n.toNat = 0 ∨
      (n.toNat : Int) - 1 - s.count.toInt ≤ 8 * ((s.bsLen.toNat - s.bsPos.toNat : Nat) : Int)) →
    ∃ t, exec (.rdBits n) s = .next t ∧ t.fault = 0#8 ∧ t.result.toNat < 2 ^ n.toNat

/-- RD_SAVE copies VALUE, RANGE and COUNT into the snapshot and changes nothing else (R75). -/
def Obligations.RdSaveCopiesDecoder : Prop :=
  ∀ s : State, s.fault = 0#8 → s.rdValid = true →
    exec .rdSave s = .next
      { s with snapValue := s.value, snapRange := s.range, snapCount := s.count }

/-- RD_RESTORE of a snapshot with SNAP_RANGE at least 128 copies it back and sets RD_VALID, which
it does not need; with SNAP_RANGE below 128 it raises BadSnapshot; nothing else changes (R76). -/
def Obligations.RdRestoreCopiesSnapshot : Prop :=
  ∀ s : State, s.fault = 0#8 →
    (128 ≤ s.snapRange.toNat → exec .rdRestore s = .next
      { s with value := s.snapValue, range := s.snapRange, count := s.snapCount,
               rdValid := true }) ∧
    (s.snapRange.toNat < 128 → exec .rdRestore s = .next
      { s with fault := 4#8, faultInfo := 0x07000000#32 })

/-- The branch-free update of R72 gives RD_DECIDE_EQ's bit, VALUE, RANGE and COUNT for RANGE in
[128, 254], and for RANGE = 255 when the bit is 1; for RANGE = 255 and bit 0 the command gives
RANGE = 128 with COUNT unchanged, which the update does not. -/
def Obligations.FastPathAgreesWithEvenDecision : Prop :=
  ∀ s : State, s.fault = 0#8 → s.rdValid = true → 128 ≤ s.range.toNat → 0 ≤ s.count.toInt →
    ∃ t b, exec .rdDecideEq s = .next t ∧ t.result.toNat = b.toNat ∧
      ((s.range.toNat ≤ 254 ∨ b = true) →
        Spec.fastPath (Spec.coder s) = (b, Spec.coder t)) ∧
      ((s.range.toNat = 255 ∧ b = false) →
        Spec.coder t = { Spec.coder s with range := 128 } ∧
        Spec.fastPath (Spec.coder s) =
          (false, { Spec.coder s with range := 256, count := s.count.toInt - 1 }))

/-- After a command that made at least one decision, RANGE is in [128, 254] and COUNT in [-7, 7]
(R79, R80). -/
def Obligations.DecisionLeavesRangeNormalized : Prop :=
  ∀ (i : Instr) (s t : State), 1 ≤ Spec.decisions i → 128 ≤ s.range.toNat → s.fault = 0#8 →
    exec i s = .next t → t.fault = 0#8 →
    128 ≤ t.range.toNat ∧ t.range.toNat ≤ 254 ∧ -7 ≤ t.count.toInt

/-- Every command but RD_INIT, RD_RESTORE and SOFT_RESET keeps INV, a starved one too, and with it
VALUE stays below 2^15 (R81), in
the states where RANGE is a whole number of units `2^(-COUNT)` when COUNT < 0, and keeps that as
well. R81 (a) states the refill's half without this premise; its proof there needs it, and every
decision establishes it (NOTES.md, log entry 14). -/
def Obligations.CommandsKeepValueInvariant : Prop :=
  ∀ (i : Instr) (s t : State), 128 ≤ s.range.toNat → s.ValueInv → Spec.RangeAligned s →
    i ≠ .rdInit → i ≠ .rdRestore → i ≠ .softReset → exec i s = .next t →
    t.ValueInv ∧ Spec.RangeAligned t ∧ t.value.toNat < 2 ^ 15

/-- After RD_INIT, INV holds if and only if the first byte of the window is not 0xFF (R81 (c)). -/
def Obligations.InitInvariantIffFirstByteNotFF : Prop :=
  ∀ s : State, s.fault = 0#8 → s.bsLen ≠ 0#32 →
    ∃ t, exec .rdInit s = .next t ∧ (t.ValueInv ↔ memRead s s.bsBase ≠ 0xFF#8)

/-- Equiprobable decisions from RANGE at most 254 consume one bit each: `8 * BS_POS - COUNT`
grows by the number of decisions (R72, R82). -/
def Obligations.EvenDecisionsConsumeOneBitEach : Prop :=
  ∀ (i : Instr) (s t : State),
    (i = .rdDecideEq ∨ (∃ v, i = .rdSigned v) ∨ ∃ n, i = .rdBits n) →
    128 ≤ s.range.toNat → s.range.toNat ≤ 254 → s.fault = 0#8 →
    exec i s = .next t → t.fault = 0#8 →
    8 * (t.bsPos.toNat : Int) - t.count.toInt =
      8 * (s.bsPos.toNat : Int) - s.count.toInt + Spec.decisions i

/-! ## The inverse transform -/

/-- TM follows the generating rule of R85 in all 1024 entries, every M_N is its row subsampling,
and DST4 is as R86 lists it. -/
def Obligations.CosineMatrixFollowsGeneratingRule : Prop :=
  (∀ k < 32, ∀ n < 32, tm k n = Spec.generatedTm k n) ∧
  (∀ size : BlockSize, ∀ j < size.n, ∀ i < size.n,
    cosineMatrix size.n j i = Spec.generatedTm (j * 2 ^ (5 - size.log2)) i) ∧
  (List.range 4).map (fun j => (List.range 4).map (dst4 j)) =
    [[29, 55, 74, 84], [74, 74, 0, -74], [84, -29, -74, 55], [55, -84, 74, -29]]

/-- IT_DCT: RES's corner is the two-pass transform of D with the cosine matrix, everything else is
unchanged (R88). -/
def Obligations.ItDctTransformsBlock : Prop :=
  ∀ (size : BlockSize) (c : Component) (s : State), s.fault = 0#8 →
    ∃ t, exec (.itDct size c) s = .next t ∧
      Spec.Transforms size s t
        (Spec.transform size.n (cosineMatrix size.n) (Spec.depthOf s c) s.d)

/-- IT_DST4: the same with N = 4 and the matrix DST4 (R89). -/
def Obligations.ItDst4TransformsBlock : Prop :=
  ∀ (c : Component) (s : State), s.fault = 0#8 →
    ∃ t, exec (.itDst4 c) s = .next t ∧
      Spec.Transforms .n4 s t (Spec.transform 4 dst4 (Spec.depthOf s c) s.d)

/-- IT_SKIP: every coefficient shifted left by 5 + log2n, rounded, shifted right by SHIFT2 and
clipped (R90), turned when `rot`. -/
def Obligations.ItSkipShiftsCoefficients : Prop :=
  ∀ (size : BlockSize) (c : Component) (rot : Bool) (s : State),
    (Instr.itSkip size c rot).WellFormed → s.fault = 0#8 →
    ∃ t, exec (.itSkip size c rot) s = .next t ∧
      Spec.Transforms size s t fun x y =>
        Spec.clip (-32768) 32767
          ((Spec.coefficient size.n rot s.d x y * 2 ^ (5 + size.log2)
            + 2 ^ (20 - Spec.depthOf s c - 1)) / 2 ^ (20 - Spec.depthOf s c))

/-- IT_BYPASS copies the coefficients, turned when `rot`, whatever CFG and `c` are (R91). -/
def Obligations.ItBypassCopiesCoefficients : Prop :=
  ∀ (size : BlockSize) (c : Component) (rot : Bool) (s : State),
    (Instr.itBypass size c rot).WellFormed → s.fault = 0#8 →
    ∃ t, exec (.itBypass size c rot) s = .next t ∧
      Spec.Transforms size s t (Spec.coefficient size.n rot s.d)

/-- A block with one non-zero coefficient `v` at (x0, y0) gives a residual that varies along x as
row `x0` and along y as row `y0` of the matrix (R96). -/
def Obligations.SingleCoefficientFollowsBasis : Prop :=
  ∀ (size : BlockSize) (c : Component) (s : State) (x0 y0 : Nat), s.fault = 0#8 →
    x0 < size.n → y0 < size.n →
    (∀ x < size.n, ∀ y < size.n, (x ≠ x0 ∨ y ≠ y0) → Spec.signedAt s.d x y = 0) →
    ∃ t, exec (.itDct size c) s = .next t ∧
      ∀ x < size.n, ∀ y < size.n, Spec.signedAt t.res x y =
        Spec.clip (-32768) 32767
          ((cosineMatrix size.n x0 x *
              Spec.clip (-32768) 32767
                ((cosineMatrix size.n y0 y * Spec.signedAt s.d x0 y0 + 64) / 128)
            + 2 ^ (20 - Spec.depthOf s c - 1)) / 2 ^ (20 - Spec.depthOf s c))

/-- A block whose only non-zero coefficient is DC gives the same value in all N*N entries of RES,
by R86 and R88. The outer clip of the value is R88's second pass: the closed formula of R95 leaves
it out and gives 32768 where this value is 32767, for D[0][0] = 32767 at bit depth 15 (DEDUCED, log
entry 15). -/
def Obligations.DcOnlyBlockIsUniform : Prop :=
  ∀ (size : BlockSize) (c : Component) (s : State), s.fault = 0#8 →
    (∀ x < size.n, ∀ y < size.n, (x ≠ 0 ∨ y ≠ 0) → Spec.signedAt s.d x y = 0) →
    ∃ t v, exec (.itDct size c) s = .next t ∧
      (∀ x < size.n, ∀ y < size.n, Spec.signedAt t.res x y = v) ∧
      v = Spec.clip (-32768) 32767
        ((64 * ((64 * Spec.signedAt s.d 0 0 + 64) / 128) + 2 ^ (20 - Spec.depthOf s c - 1))
          / 2 ^ (20 - Spec.depthOf s c))

/-! ## Intra prediction -/

/-- ANGLE for modes 2 to 34 as R110 lists it, INV_ANGLE for modes 11 to 25 as R111 lists it, and
INV_ANGLE is 8192 / ANGLE rounded to nearest. -/
def Obligations.PredictionTablesAsListed : Prop :=
  (List.range 33).map (fun k => angle (k + 2)) =
    [32, 26, 21, 17, 13, 9, 5, 2, 0, -2, -5, -9, -13, -17, -21, -26, -32, -26, -21, -17, -13, -9,
     -5, -2, 0, 2, 5, 9, 13, 17, 21, 26, 32] ∧
  (List.range 15).map (fun k => invAngle (k + 11)) =
    [-4096, -1638, -910, -630, -482, -390, -315, -256, -315, -390, -482, -630, -910, -1638,
     -4096] ∧
  ∀ mode < 26, 11 ≤ mode →
    2 * (invAngle mode * angle mode - 8192).natAbs ≤ (angle mode).natAbs

/-- IP_SUBST: with none available every sample is mid-gray; a sample takes the value of the
nearest available one at or before it, and those before the first available one take its value;
every avail becomes 1; entries above 4N and everything else are unchanged (R100). -/
def Obligations.IpSubstPropagatesNearest : Prop :=
  ∀ (size : BlockSize) (c : Component) (s : State), s.fault = 0#8 →
    ∃ t, exec (.ipSubst size c) s = .next t ∧ t = { s with ref := t.ref } ∧
      (∀ i < 129, 4 * size.n < i → t.ref.get i = s.ref.get i) ∧
      ∀ i ≤ 4 * size.n,
        (t.ref.get i).avail = true ∧
        ((∀ j ≤ 4 * size.n, (s.ref.get j).avail = false) →
          Spec.refVal t.ref i = 2 ^ (Spec.depthOf s c - 1)) ∧
        (∀ j ≤ i, (s.ref.get j).avail = true →
          (∀ k ≤ i, j < k → (s.ref.get k).avail = false) →
          Spec.refVal t.ref i = Spec.refVal s.ref j) ∧
        (∀ j ≤ 4 * size.n, i < j → (s.ref.get j).avail = true →
          (∀ k < j, (s.ref.get k).avail = false) →
          Spec.refVal t.ref i = Spec.refVal s.ref j)

/-- IP_FILTER with filterFlag = 0 leaves REF unchanged and clears IP_FILT (R101, R105). -/
def Obligations.IpFilterOffKeepsReferences : Prop :=
  ∀ (size : BlockSize) (c : Component) (mode : BitVec 6) (s : State),
    (Instr.ipFilter size c mode).WellFormed → s.fault = 0#8 → ¬ Spec.Filters size mode.toNat →
    exec (.ipFilter size c mode) s = .next { s with ipFilt := 0#2 }

/-- IP_FILTER with filterFlag = 1 and the strong filter not chosen: three taps on REF[1..4N-1],
all from the old values, IP_FILT = 1; avail, the other entries and everything else unchanged
(R103, R105). -/
def Obligations.IpFilterThreeTapSmooths : Prop :=
  ∀ (size : BlockSize) (c : Component) (mode : BitVec 6) (s : State),
    (Instr.ipFilter size c mode).WellFormed → s.fault = 0#8 → Spec.Filters size mode.toNat →
    ¬ Spec.StrongChosen s size c →
    ∃ t, exec (.ipFilter size c mode) s = .next t ∧
      t = { s with ref := t.ref, ipFilt := 1#2 } ∧
      ∀ i < 129, (t.ref.get i).avail = (s.ref.get i).avail ∧
        Spec.refVal t.ref i =
          if 1 ≤ i ∧ i < 4 * size.n then
            (Spec.refVal s.ref (i - 1) + 2 * Spec.refVal s.ref i + Spec.refVal s.ref (i + 1) + 2)
              / 4
          else Spec.refVal s.ref i

/-- IP_FILTER with filterFlag = 1 and the strong filter chosen: every sample between the corner
and an end is their linear interpolation, IP_FILT = 2; avail and everything else unchanged (R104,
R105). -/
def Obligations.IpFilterStrongInterpolates : Prop :=
  ∀ (size : BlockSize) (c : Component) (mode : BitVec 6) (s : State),
    (Instr.ipFilter size c mode).WellFormed → s.fault = 0#8 → Spec.Filters size mode.toNat →
    Spec.StrongChosen s size c →
    ∃ t, exec (.ipFilter size c mode) s = .next t ∧
      t = { s with ref := t.ref, ipFilt := 2#2 } ∧
      (∀ i < 129, (t.ref.get i).avail = (s.ref.get i).avail) ∧
      Spec.left t.ref 32 (-1) = Spec.left s.ref 32 (-1) ∧
      Spec.left t.ref 32 63 = Spec.left s.ref 32 63 ∧
      Spec.top t.ref 32 63 = Spec.top s.ref 32 63 ∧
      (∀ y : Nat, y < 63 → Spec.left t.ref 32 y =
        ((63 - y) * Spec.left s.ref 32 (-1) + (y + 1) * Spec.left s.ref 32 63 + 32) / 64) ∧
      (∀ x : Nat, x < 63 → Spec.top t.ref 32 x =
        ((63 - x) * Spec.left s.ref 32 (-1) + (x + 1) * Spec.top s.ref 32 63 + 32) / 64)

/-- IP_PLANAR: PRED's corner is the planar value of R106; everything else is unchanged. -/
def Obligations.IpPlanarPredicts : Prop :=
  ∀ (size : BlockSize) (c : Component) (s : State), s.fault = 0#8 →
    ∃ t, exec (.ipPlanar size c) s = .next t ∧
      Spec.Predicts size s t (Spec.planar size s.ref)

/-- IP_DC: PRED's corner is dcVal (R107), with the edge correction of R108 for luma below 32 by 32
with nf = 0; everything else is unchanged. -/
def Obligations.IpDcPredicts : Prop :=
  ∀ (size : BlockSize) (c : Component) (nf : Bool) (s : State), s.fault = 0#8 →
    ∃ t, exec (.ipDc size c nf) s = .next t ∧
      Spec.Predicts size s t (Spec.dcSample size s.ref (Spec.boundaryOn size c nf))

/-- IP_ANG: PRED's corner is the angular prediction of R112 to R118; everything else is
unchanged. -/
def Obligations.IpAngPredicts : Prop :=
  ∀ (size : BlockSize) (c : Component) (nf : Bool) (mode : BitVec 6) (s : State),
    (Instr.ipAng size c nf mode).WellFormed → s.fault = 0#8 →
    ∃ t, exec (.ipAng size c nf mode) s = .next t ∧
      Spec.Predicts size s t
        (Spec.angular size s.ref (Spec.depthOf s c) mode.toNat (Spec.boundaryOn size c nf))

/-- IP_RECON: OUT's corner is PRED + RES clipped to the sample range (R119); everything else is
unchanged. -/
def Obligations.IpReconAddsAndClips : Prop :=
  ∀ (size : BlockSize) (c : Component) (s : State), s.fault = 0#8 →
    ∃ t, exec (.ipRecon size c) s = .next t ∧ t = { s with out := t.out } ∧
      ∀ x < 32, ∀ y < 32, Spec.unsignedAt t.out x y =
        if x < size.n ∧ y < size.n then
          Spec.clip 0 (2 ^ Spec.depthOf s c - 1)
            (Spec.unsignedAt s.pred x y + Spec.signedAt s.res x y)
        else Spec.unsignedAt s.out x y

/-- A flat reference `v` within the sample range predicts `v` everywhere, in every mode, size,
component and `nf` (R120). -/
def Obligations.FlatReferencePredictsFlat : Prop :=
  ∀ (i : Instr) (size : BlockSize) (c : Component) (s t : State) (v : Int), i.WellFormed →
    (i = .ipPlanar size c ∨ (∃ nf, i = .ipDc size c nf) ∨ ∃ nf mode, i = .ipAng size c nf mode) →
    s.fault = 0#8 → v < 2 ^ Spec.depthOf s c → (∀ k ≤ 4 * size.n, Spec.refVal s.ref k = v) →
    exec i s = .next t →
    ∀ x < size.n, ∀ y < size.n, Spec.unsignedAt t.pred x y = v

/-- IP_PLANAR, IP_DC and IP_ANG without the filters of modes 10 and 26 write only values between
the least and the greatest reference in use (R120). -/
def Obligations.PredictionStaysWithinReferences : Prop :=
  ∀ (i : Instr) (size : BlockSize) (c : Component) (s t : State) (lo hi : Int), i.WellFormed →
    (i = .ipPlanar size c ∨ (∃ nf, i = .ipDc size c nf) ∨
      ∃ nf mode, i = .ipAng size c nf mode ∧
        ((mode ≠ 10#6 ∧ mode ≠ 26#6) ∨ Spec.boundaryOn size c nf = false)) →
    s.fault = 0#8 →
    (∀ k ≤ 4 * size.n, lo ≤ Spec.refVal s.ref k ∧ Spec.refVal s.ref k ≤ hi) →
    exec i s = .next t →
    ∀ x < size.n, ∀ y < size.n, lo ≤ Spec.unsignedAt t.pred x y ∧ Spec.unsignedAt t.pred x y ≤ hi

/-- IP_SUBST with a sample available, and IP_FILTER, leave in REF[0..4N] only values between the
least and the greatest of those that were there; with IP_SUBST those of the available samples are
enough (R120). -/
def Obligations.PreparedReferencesStayWithinReferences : Prop :=
  ∀ (size : BlockSize) (c : Component) (mode : BitVec 6) (s : State) (lo hi : Int),
    s.fault = 0#8 →
    ((∃ k ≤ 4 * size.n, (s.ref.get k).avail = true) →
      (∀ k ≤ 4 * size.n, (s.ref.get k).avail = true →
        lo ≤ Spec.refVal s.ref k ∧ Spec.refVal s.ref k ≤ hi) →
      ∃ t, exec (.ipSubst size c) s = .next t ∧
        ∀ k ≤ 4 * size.n, lo ≤ Spec.refVal t.ref k ∧ Spec.refVal t.ref k ≤ hi) ∧
    ((Instr.ipFilter size c mode).WellFormed →
      (∀ k ≤ 4 * size.n, lo ≤ Spec.refVal s.ref k ∧ Spec.refVal s.ref k ≤ hi) →
      ∃ t, exec (.ipFilter size c mode) s = .next t ∧
        ∀ k ≤ 4 * size.n, lo ≤ Spec.refVal t.ref k ∧ Spec.refVal t.ref k ≤ hi)

/-! ## The host's register accesses and the bitstream memory -/

/-- A host read changes nothing but the word on the host's data lines (R42). What it returns for
each control register (R17, R19, R21, R27), and 0 for CMD and for the reserved indices (R28). -/
def Obligations.ControlRegistersReadAsMapped : Prop :=
  ∀ (s : State) (index : RegIndex) (rest : List BusEvent), s.bus = .read index :: rest →
    ∃ t, step s = .next t ∧ t = { s with bus := rest, hostData := t.hostData } ∧
    (index = 0x000#13 → t.hostData = 0#32) ∧
    (index = 0x001#13 → t.hostData.toNat =
      s.fault.toNat + 256 * s.rdValid.toNat + 512 * s.ipFilt.toNat) ∧
    (index = 0x002#13 → t.hostData = s.result) ∧
    (index = 0x003#13 → t.hostData = s.faultInfo) ∧
    (index = 0x004#13 → t.hostData.toNat =
      s.bdY.toNat + 16 * s.bdC.toNat + 256 * s.strong.toNat) ∧
    (index = 0x005#13 → t.hostData = s.bsBase) ∧
    (index = 0x006#13 → t.hostData = s.bsLen) ∧
    (index = 0x007#13 → t.hostData = s.bsPos) ∧
    (index = 0x008#13 → t.hostData = s.value) ∧
    (index = 0x009#13 → t.hostData.toNat = s.range.toNat) ∧
    (index = 0x00A#13 → t.hostData.toInt = s.count.toInt) ∧
    (index = 0x00B#13 → t.hostData = s.snapValue) ∧
    (index = 0x00C#13 → t.hostData.toNat = s.snapRange.toNat) ∧
    (index = 0x00D#13 → t.hostData.toInt = s.snapCount.toInt) ∧
    ((0x00E ≤ index.toNat ∧ index.toNat ≤ 0x3FF ∨ 0x1481 ≤ index.toNat) → t.hostData = 0#32)

/-- What a host read of a buffer entry returns: D and RES sign-extended, PRED and OUT
zero-extended, REF with avail in bit 16 (R22 to R27). -/
def Obligations.BuffersReadAsMapped : Prop :=
  ∀ (s t : State) (index : RegIndex) (rest : List BusEvent), s.bus = .read index :: rest →
    step s = .next t →
    (∀ x < 32, ∀ y < 32,
      (index.toNat = 0x400 + y * 32 + x → t.hostData.toInt = Spec.signedAt s.d x y) ∧
      (index.toNat = 0x800 + y * 32 + x → t.hostData.toInt = Spec.signedAt s.res x y) ∧
      (index.toNat = 0xC00 + y * 32 + x → (t.hostData.toNat : Int) = Spec.unsignedAt s.pred x y) ∧
      (index.toNat = 0x1000 + y * 32 + x →
        (t.hostData.toNat : Int) = Spec.unsignedAt s.out x y)) ∧
    ∀ i < 129, index.toNat = 0x1400 + i →
      t.hostData.toNat = (s.ref.get i).val.toNat + 65536 * (s.ref.get i).avail.toNat

/-- Host writes to the control registers: CFG stores 8 for a bit depth below 8, STRONG is bit 8 and
the other bits are ignored (R19); the window registers take the data (R20); SNAP_RANGE and
SNAP_COUNT take its low bits (R21); nothing else changes. -/
def Obligations.ControlRegisterWrites : Prop :=
  ∀ (s : State) (index : RegIndex) (data : Word) (rest : List BusEvent),
    s.bus = .write index data :: rest →
    (index = 0x004#13 → ∃ t, step s = .next t ∧
      t.bdY.toNat = max 8 (data.toNat % 16) ∧ t.bdC.toNat = max 8 (data.toNat / 16 % 16) ∧
      t.strong = decide (data.toNat / 256 % 2 = 1) ∧
      t = { s with bus := rest, bdY := t.bdY, bdC := t.bdC, strong := t.strong }) ∧
    (index = 0x005#13 → step s = .next { s with bus := rest, bsBase := data }) ∧
    (index = 0x006#13 → step s = .next { s with bus := rest, bsLen := data }) ∧
    (index = 0x007#13 → step s = .next { s with bus := rest, bsPos := data }) ∧
    (index = 0x00B#13 → step s = .next { s with bus := rest, snapValue := data }) ∧
    (index = 0x00C#13 → step s = .next
      { s with bus := rest, snapRange := BitVec.ofNat 8 data.toNat }) ∧
    (index = 0x00D#13 → step s = .next
      { s with bus := rest, snapCount := BitVec.ofNat 4 data.toNat })

/-- A host write to an entry of D, RES, PRED or REF stores the data, narrowed, in that entry;
every other entry and everything else is unchanged (R22, R23, R24, R26). -/
def Obligations.BufferWritesStoreOneEntry : Prop :=
  ∀ (s : State) (index : RegIndex) (data : Word) (rest : List BusEvent),
    s.bus = .write index data :: rest →
    ∀ k,
      (k < 1024 → index.toNat = 0x400 + k → ∃ t, step s = .next t ∧
        t = { s with bus := rest, d := t.d } ∧ t.d.get k = BitVec.ofNat 16 data.toNat ∧
        ∀ j ≠ k, t.d.get j = s.d.get j) ∧
      (k < 1024 → index.toNat = 0x800 + k → ∃ t, step s = .next t ∧
        t = { s with bus := rest, res := t.res } ∧ t.res.get k = BitVec.ofNat 16 data.toNat ∧
        ∀ j ≠ k, t.res.get j = s.res.get j) ∧
      (k < 1024 → index.toNat = 0xC00 + k → ∃ t, step s = .next t ∧
        t = { s with bus := rest, pred := t.pred } ∧ t.pred.get k = BitVec.ofNat 16 data.toNat ∧
        ∀ j ≠ k, t.pred.get j = s.pred.get j) ∧
      (k < 129 → index.toNat = 0x1400 + k → ∃ t, step s = .next t ∧
        t = { s with bus := rest, ref := t.ref } ∧
        t.ref.get k = ⟨decide (data.toNat / 65536 % 2 = 1), BitVec.ofNat 16 data.toNat⟩ ∧
        ∀ j ≠ k, t.ref.get j = s.ref.get j)

/-- A host write to a read-only register, to OUT or to a reserved index changes nothing (R28). -/
def Obligations.IgnoredWritesChangeNothing : Prop :=
  ∀ (s : State) (index : RegIndex) (data : Word) (rest : List BusEvent),
    s.bus = .write index data :: rest →
    (index.toNat ∈ [0x001, 0x002, 0x003, 0x008, 0x009, 0x00A] ∨
      0x00E ≤ index.toNat ∧ index.toNat ≤ 0x3FF ∨
      0x1000 ≤ index.toNat ∧ index.toNat ≤ 0x13FF ∨ 0x1481 ≤ index.toNat) →
    step s = .next { s with bus := rest }

/-- Another master's write stores one byte of the bitstream memory, every other byte and
everything else unchanged (R46; the move is the MODEL's own, log entry 7). -/
def Obligations.OtherMasterWritesOneByte : Prop :=
  ∀ (s : State) (a : BitVec 32) (b : Byte) (rest : List BusEvent), Memory.wf s.mem = true →
    s.bus = .memWrite a b :: rest →
    ∃ t, step s = .next t ∧ t = { s with bus := rest, mem := t.mem } ∧
      ∀ a', memRead t a' = if a' = a then b else memRead s a'

/-- No command writes the bitstream memory, D, the pending moves or CFG but SOFT_RESET's CFG
(R37, R22). -/
def Obligations.CommandsNeverWriteMemory : Prop :=
  ∀ (i : Instr) (s t : State), exec i s = .next t →
    t.mem = s.mem ∧ t.d = s.d ∧ t.bus = s.bus ∧ t.hostData = s.hostData ∧ t.resets = s.resets ∧
    (i ≠ .softReset → t.bdY = s.bdY ∧ t.bdC = s.bdC ∧ t.strong = s.strong)

/-- A command's outcome depends on no byte of the bitstream memory outside the window of BS_LEN
bytes at BS_BASE (R78: no byte beyond it is ever read). -/
def Obligations.BytesOutsideWindowAreNotRead : Prop :=
  ∀ (i : Instr) (s t : State) (m : List Host.Cell),
    (∀ p, p < s.bsLen.toNat → Spec.windowByte { s with mem := m } p = Spec.windowByte s p) →
    exec i s = .next t → exec i { s with mem := m } = .next { t with mem := m }

/-! ## Invariants -/

/-- The reset state satisfies the invariant of R33. -/
def Obligations.ResetSatisfiesInvariant : Prop := State.reset.Inv

/-- Every step keeps the invariant of R33: RANGE at least 128, legal bit depths, a fault code of
R126, the memory's canonical form. -/
def Obligations.StepKeepsInvariant : Prop :=
  ∀ s t : State, s.Inv → step s = .next t → t.Inv

/-- From a state with the invariant no run ever reaches a step that stops. -/
def Obligations.RunsNeverStop : Prop :=
  ∀ s t : State, s.Inv → Reaches s t → t.Safe
end

