-- ==== Sys2Proof/Laws/Arith.lean ====
section
/-!
SUPPORT. What the arithmetic primitives of Machine/Arith.lean compute, and when narrowing loses
nothing.
-/

namespace Sys2Proof.Machine

theorem asr_eq_ediv (a : Int) (n : Nat) : asr a n = a / 2 ^ n := by simp [asr]

theorem shl_eq_mul (a : Int) (n : Nat) : shl a n = a * 2 ^ n := by simp [shl]

theorem roundShift_eq (a : Int) (n : Nat) : roundShift a n = (a + 2 ^ (n - 1)) / 2 ^ n := by
  simp [roundShift, asr, shl]

theorem sumTo_eq_sum (n : Nat) (f : Nat → Int) : sumTo n f = ∑ j ∈ Finset.range n, f j := by
  induction n with
  | zero => rfl
  | succ n ih => rw [sumTo, ih, Finset.sum_range_succ]

theorem clip3_mem {lo hi : Int} (h : lo ≤ hi) (v : Int) :
    lo ≤ clip3 lo hi v ∧ clip3 lo hi v ≤ hi := by
  unfold clip3
  split
  · omega
  · split <;> omega

theorem clip3_of_mem {lo hi v : Int} (h₁ : lo ≤ v) (h₂ : v ≤ hi) : clip3 lo hi v = v := by
  unfold clip3
  rw [if_neg (by omega), if_neg (by omega)]

theorem clip3_eq_max_min {lo hi : Int} (h : lo ≤ hi) (v : Int) :
    clip3 lo hi v = max lo (min hi v) := by
  unfold clip3
  split
  · omega
  · split <;> omega

/-- A signed 16-bit value is stored whole. -/
theorem toInt_entryOf {a : Int} (h₁ : -32768 ≤ a) (h₂ : a ≤ 32767) : (entryOf a).toInt = a := by
  rw [entryOf, BitVec.toInt_ofInt, Int.bmod_def]
  omega

/-- An unsigned 16-bit value is stored whole. -/
theorem toNat_entryOf {a : Int} (h₁ : 0 ≤ a) (h₂ : a ≤ 65535) :
    ((entryOf a).toNat : Int) = a := by
  rw [entryOf, BitVec.toNat_ofInt]
  omega

theorem sampleMax_eq (depth : Nat) : sampleMax depth = 2 ^ depth - 1 := by simp [sampleMax, shl]

theorem midGray_eq (depth : Nat) : midGray depth = 2 ^ (depth - 1) := by simp [midGray, shl]

/-- `floor_log2` of a number from 1 to 255 is at most 7. -/
theorem floorLog2_le_seven {v : Nat} (h : v < 256) : floorLog2 v ≤ 7 := by
  have : Nat.log2 v < 8 := by
    rcases Nat.eq_zero_or_pos v with rfl | hv
    · decide
    · exact (Nat.log2_lt (by omega)).2 (by omega)
  exact Nat.le_of_lt_succ this

/-- `7 XOR k = 7 - k` for `k` in 0..7 (40_range_decoder.md R69). -/
theorem seven_xor {k : Nat} (h : k ≤ 7) : 7 ^^^ k = 7 - k := by
  interval_cases k <;> rfl

end Sys2Proof.Machine
end

