-- ==== Sys2Proof/Laws/Buffers.lean ====
section
/-!
SUPPORT. Reading a buffer after writing it: the laws of Word.lean's buffers, of the block buffers'
corners, of the grids and of the reference line.
-/

namespace Sys2Proof

variable {α : Type} [Inhabited α] {n : Nat}

@[simp] theorem Buffer.get_tabulate (f : Nat → α) {i : Nat} (h : i < n) :
    (Buffer.tabulate n f).get i = f i := by
  simp [Buffer.get, Buffer.tabulate, List.getD, h]

theorem Buffer.get_outside (b : Buffer α n) {i : Nat} (h : n ≤ i) : b.get i = default := by
  have := b.size
  simp [Buffer.get, List.getD, List.getElem?_eq_none (by omega : b.cells.length ≤ i)]

theorem Buffer.get_eq_getElem (b : Buffer α n) {i : Nat} (h : i < b.cells.length) :
    b.get i = b.cells[i] := by
  simp [Buffer.get, List.getD, h]

@[simp] theorem Buffer.get_set_same (b : Buffer α n) {i : Nat} (v : α) (h : i < n) :
    (b.set i v).get i = v := by
  have := b.size
  simp [Buffer.get, Buffer.set, List.getD, this, h]

theorem Buffer.get_set_other (b : Buffer α n) {i j : Nat} (v : α) (h : j ≠ i) :
    (b.set i v).get j = b.get j := by
  simp [Buffer.get, Buffer.set, List.getD, Ne.symm h]

/-- Buffers that read the same at every index are equal. -/
theorem Buffer.ext_get {a b : Buffer α n} (h : ∀ i < n, a.get i = b.get i) : a = b := by
  obtain ⟨l, hl⟩ := a
  obtain ⟨m, hm⟩ := b
  congr 1
  refine List.ext_getElem (by omega) fun i h₁ h₂ => ?_
  have := h i (by omega)
  rwa [Buffer.get_eq_getElem _ h₁, Buffer.get_eq_getElem _ h₂] at this

end Sys2Proof

namespace Sys2Proof.Machine

/-- The corner write: entries of the N by N corner take the new value, all others keep theirs. -/
theorem Block.at_corner (b : Block) (n : Nat) (f : Nat → Nat → Entry) {x y : Nat}
    (hx : x < 32) (hy : y < 32) :
    (Block.corner b n f).at x y = if x < n ∧ y < n then f x y else b.at x y := by
  have h₁ : (y * 32 + x) % 32 = x := by omega
  have h₂ : (y * 32 + x) / 32 = y := by omega
  rw [Block.at, Block.corner, Buffer.get_tabulate _ (by omega), h₁, h₂, Block.at]

@[simp] theorem gridAt_gridOf (n : Nat) (f : Nat → Nat → Int) {x y : Nat}
    (hx : x < n) (hy : y < n) : gridAt (gridOf n f) x y = f x y := by
  have h : y * n + x < n * n := by nlinarith
  have h₁ : (y * n + x) % n = x := by
    rw [Nat.add_comm, Nat.add_mul_mod_self_right, Nat.mod_eq_of_lt hx]
  have h₂ : (y * n + x) / n = y := by
    rw [Nat.add_comm, Nat.add_mul_div_right _ _ (by omega), Nat.div_eq_of_lt hx, Nat.zero_add]
  rw [gridAt, gridOf, Buffer.get_tabulate _ h, h₁, h₂]

theorem RefLine.get_mapVal (r : RefLine) (p : Nat → Bool) (f : Nat → Int) {i : Nat}
    (h : i < 129) :
    (RefLine.mapVal r p f).get i =
      if p i then ⟨(r.get i).avail, entryOf (f i)⟩ else r.get i := by
  rw [RefLine.mapVal, Buffer.get_tabulate _ h]

theorem RefLine.sample_nonneg (r : RefLine) (i : Int) : 0 ≤ RefLine.sample r i := by
  simp [RefLine.sample]

theorem RefLine.sample_le (r : RefLine) (i : Int) : RefLine.sample r i ≤ 65535 := by
  have := (r.get i.toNat).val.isLt
  simp only [RefLine.sample]
  omega

theorem BlockSize.n_cases (z : BlockSize) : z.n = 4 ∨ z.n = 8 ∨ z.n = 16 ∨ z.n = 32 := by
  cases z <;> simp [BlockSize.n, BlockSize.log2]

theorem BlockSize.n_eq_pow (z : BlockSize) : z.n = 2 ^ z.log2 := by
  cases z <;> rfl

end Sys2Proof.Machine
end

