-- ==== Sys2Proof/Laws/State.lean ====
section
/-!
SUPPORT. The small lemmas of the state's named updates: one per field per update, each true by
rfl, so that no proof unfolds a record update. `s.upd_field : (s.upd ...).field = ...`.
-/

namespace Sys2Proof.Machine

variable (s : State)

/-! `State.withFault` -/

@[simp] theorem State.withFault_value (code : BitVec 8) (info : Word) :
    (s.withFault code info).value = s.value := rfl
@[simp] theorem State.withFault_range (code : BitVec 8) (info : Word) :
    (s.withFault code info).range = s.range := rfl
@[simp] theorem State.withFault_count (code : BitVec 8) (info : Word) :
    (s.withFault code info).count = s.count := rfl
@[simp] theorem State.withFault_bsBase (code : BitVec 8) (info : Word) :
    (s.withFault code info).bsBase = s.bsBase := rfl
@[simp] theorem State.withFault_bsLen (code : BitVec 8) (info : Word) :
    (s.withFault code info).bsLen = s.bsLen := rfl
@[simp] theorem State.withFault_bsPos (code : BitVec 8) (info : Word) :
    (s.withFault code info).bsPos = s.bsPos := rfl
@[simp] theorem State.withFault_snapValue (code : BitVec 8) (info : Word) :
    (s.withFault code info).snapValue = s.snapValue := rfl
@[simp] theorem State.withFault_snapRange (code : BitVec 8) (info : Word) :
    (s.withFault code info).snapRange = s.snapRange := rfl
@[simp] theorem State.withFault_snapCount (code : BitVec 8) (info : Word) :
    (s.withFault code info).snapCount = s.snapCount := rfl
@[simp] theorem State.withFault_result (code : BitVec 8) (info : Word) :
    (s.withFault code info).result = s.result := rfl
@[simp] theorem State.withFault_fault (code : BitVec 8) (info : Word) :
    (s.withFault code info).fault = code := rfl
@[simp] theorem State.withFault_rdValid (code : BitVec 8) (info : Word) :
    (s.withFault code info).rdValid = s.rdValid := rfl
@[simp] theorem State.withFault_ipFilt (code : BitVec 8) (info : Word) :
    (s.withFault code info).ipFilt = s.ipFilt := rfl
@[simp] theorem State.withFault_faultInfo (code : BitVec 8) (info : Word) :
    (s.withFault code info).faultInfo = info := rfl
@[simp] theorem State.withFault_bdY (code : BitVec 8) (info : Word) :
    (s.withFault code info).bdY = s.bdY := rfl
@[simp] theorem State.withFault_bdC (code : BitVec 8) (info : Word) :
    (s.withFault code info).bdC = s.bdC := rfl
@[simp] theorem State.withFault_strong (code : BitVec 8) (info : Word) :
    (s.withFault code info).strong = s.strong := rfl
@[simp] theorem State.withFault_d (code : BitVec 8) (info : Word) :
    (s.withFault code info).d = s.d := rfl
@[simp] theorem State.withFault_res (code : BitVec 8) (info : Word) :
    (s.withFault code info).res = s.res := rfl
@[simp] theorem State.withFault_pred (code : BitVec 8) (info : Word) :
    (s.withFault code info).pred = s.pred := rfl
@[simp] theorem State.withFault_out (code : BitVec 8) (info : Word) :
    (s.withFault code info).out = s.out := rfl
@[simp] theorem State.withFault_ref (code : BitVec 8) (info : Word) :
    (s.withFault code info).ref = s.ref := rfl
@[simp] theorem State.withFault_mem (code : BitVec 8) (info : Word) :
    (s.withFault code info).mem = s.mem := rfl
@[simp] theorem State.withFault_bus (code : BitVec 8) (info : Word) :
    (s.withFault code info).bus = s.bus := rfl
@[simp] theorem State.withFault_hostData (code : BitVec 8) (info : Word) :
    (s.withFault code info).hostData = s.hostData := rfl
@[simp] theorem State.withFault_resets (code : BitVec 8) (info : Word) :
    (s.withFault code info).resets = s.resets := rfl

/-! `State.raise` -/

@[simp] theorem State.raise_value (x : FaultCode) (cmd : Word) :
    (s.raise x cmd).value = s.value := rfl
@[simp] theorem State.raise_range (x : FaultCode) (cmd : Word) :
    (s.raise x cmd).range = s.range := rfl
@[simp] theorem State.raise_count (x : FaultCode) (cmd : Word) :
    (s.raise x cmd).count = s.count := rfl
@[simp] theorem State.raise_bsBase (x : FaultCode) (cmd : Word) :
    (s.raise x cmd).bsBase = s.bsBase := rfl
@[simp] theorem State.raise_bsLen (x : FaultCode) (cmd : Word) :
    (s.raise x cmd).bsLen = s.bsLen := rfl
@[simp] theorem State.raise_bsPos (x : FaultCode) (cmd : Word) :
    (s.raise x cmd).bsPos = s.bsPos := rfl
@[simp] theorem State.raise_snapValue (x : FaultCode) (cmd : Word) :
    (s.raise x cmd).snapValue = s.snapValue := rfl
@[simp] theorem State.raise_snapRange (x : FaultCode) (cmd : Word) :
    (s.raise x cmd).snapRange = s.snapRange := rfl
@[simp] theorem State.raise_snapCount (x : FaultCode) (cmd : Word) :
    (s.raise x cmd).snapCount = s.snapCount := rfl
@[simp] theorem State.raise_result (x : FaultCode) (cmd : Word) :
    (s.raise x cmd).result = s.result := rfl
@[simp] theorem State.raise_fault (x : FaultCode) (cmd : Word) :
    (s.raise x cmd).fault = x.code := rfl
@[simp] theorem State.raise_rdValid (x : FaultCode) (cmd : Word) :
    (s.raise x cmd).rdValid = s.rdValid := rfl
@[simp] theorem State.raise_ipFilt (x : FaultCode) (cmd : Word) :
    (s.raise x cmd).ipFilt = s.ipFilt := rfl
@[simp] theorem State.raise_faultInfo (x : FaultCode) (cmd : Word) :
    (s.raise x cmd).faultInfo = cmd := rfl
@[simp] theorem State.raise_bdY (x : FaultCode) (cmd : Word) : (s.raise x cmd).bdY = s.bdY := rfl
@[simp] theorem State.raise_bdC (x : FaultCode) (cmd : Word) : (s.raise x cmd).bdC = s.bdC := rfl
@[simp] theorem State.raise_strong (x : FaultCode) (cmd : Word) :
    (s.raise x cmd).strong = s.strong := rfl
@[simp] theorem State.raise_d (x : FaultCode) (cmd : Word) : (s.raise x cmd).d = s.d := rfl
@[simp] theorem State.raise_res (x : FaultCode) (cmd : Word) : (s.raise x cmd).res = s.res := rfl
@[simp] theorem State.raise_pred (x : FaultCode) (cmd : Word) : (s.raise x cmd).pred = s.pred := rfl
@[simp] theorem State.raise_out (x : FaultCode) (cmd : Word) : (s.raise x cmd).out = s.out := rfl
@[simp] theorem State.raise_ref (x : FaultCode) (cmd : Word) : (s.raise x cmd).ref = s.ref := rfl
@[simp] theorem State.raise_mem (x : FaultCode) (cmd : Word) : (s.raise x cmd).mem = s.mem := rfl
@[simp] theorem State.raise_bus (x : FaultCode) (cmd : Word) : (s.raise x cmd).bus = s.bus := rfl
@[simp] theorem State.raise_hostData (x : FaultCode) (cmd : Word) :
    (s.raise x cmd).hostData = s.hostData := rfl
@[simp] theorem State.raise_resets (x : FaultCode) (cmd : Word) :
    (s.raise x cmd).resets = s.resets := rfl

/-! `State.withRdValid` -/

@[simp] theorem State.withRdValid_value (b : Bool) : (s.withRdValid b).value = s.value := rfl
@[simp] theorem State.withRdValid_range (b : Bool) : (s.withRdValid b).range = s.range := rfl
@[simp] theorem State.withRdValid_count (b : Bool) : (s.withRdValid b).count = s.count := rfl
@[simp] theorem State.withRdValid_bsBase (b : Bool) : (s.withRdValid b).bsBase = s.bsBase := rfl
@[simp] theorem State.withRdValid_bsLen (b : Bool) : (s.withRdValid b).bsLen = s.bsLen := rfl
@[simp] theorem State.withRdValid_bsPos (b : Bool) : (s.withRdValid b).bsPos = s.bsPos := rfl
@[simp] theorem State.withRdValid_snapValue (b : Bool) :
    (s.withRdValid b).snapValue = s.snapValue := rfl
@[simp] theorem State.withRdValid_snapRange (b : Bool) :
    (s.withRdValid b).snapRange = s.snapRange := rfl
@[simp] theorem State.withRdValid_snapCount (b : Bool) :
    (s.withRdValid b).snapCount = s.snapCount := rfl
@[simp] theorem State.withRdValid_result (b : Bool) : (s.withRdValid b).result = s.result := rfl
@[simp] theorem State.withRdValid_fault (b : Bool) : (s.withRdValid b).fault = s.fault := rfl
@[simp] theorem State.withRdValid_rdValid (b : Bool) : (s.withRdValid b).rdValid = b := rfl
@[simp] theorem State.withRdValid_ipFilt (b : Bool) : (s.withRdValid b).ipFilt = s.ipFilt := rfl
@[simp] theorem State.withRdValid_faultInfo (b : Bool) :
    (s.withRdValid b).faultInfo = s.faultInfo := rfl
@[simp] theorem State.withRdValid_bdY (b : Bool) : (s.withRdValid b).bdY = s.bdY := rfl
@[simp] theorem State.withRdValid_bdC (b : Bool) : (s.withRdValid b).bdC = s.bdC := rfl
@[simp] theorem State.withRdValid_strong (b : Bool) : (s.withRdValid b).strong = s.strong := rfl
@[simp] theorem State.withRdValid_d (b : Bool) : (s.withRdValid b).d = s.d := rfl
@[simp] theorem State.withRdValid_res (b : Bool) : (s.withRdValid b).res = s.res := rfl
@[simp] theorem State.withRdValid_pred (b : Bool) : (s.withRdValid b).pred = s.pred := rfl
@[simp] theorem State.withRdValid_out (b : Bool) : (s.withRdValid b).out = s.out := rfl
@[simp] theorem State.withRdValid_ref (b : Bool) : (s.withRdValid b).ref = s.ref := rfl
@[simp] theorem State.withRdValid_mem (b : Bool) : (s.withRdValid b).mem = s.mem := rfl
@[simp] theorem State.withRdValid_bus (b : Bool) : (s.withRdValid b).bus = s.bus := rfl
@[simp] theorem State.withRdValid_hostData (b : Bool) :
    (s.withRdValid b).hostData = s.hostData := rfl
@[simp] theorem State.withRdValid_resets (b : Bool) : (s.withRdValid b).resets = s.resets := rfl

/-! `State.withIpFilt` -/

@[simp] theorem State.withIpFilt_value (f : BitVec 2) : (s.withIpFilt f).value = s.value := rfl
@[simp] theorem State.withIpFilt_range (f : BitVec 2) : (s.withIpFilt f).range = s.range := rfl
@[simp] theorem State.withIpFilt_count (f : BitVec 2) : (s.withIpFilt f).count = s.count := rfl
@[simp] theorem State.withIpFilt_bsBase (f : BitVec 2) : (s.withIpFilt f).bsBase = s.bsBase := rfl
@[simp] theorem State.withIpFilt_bsLen (f : BitVec 2) : (s.withIpFilt f).bsLen = s.bsLen := rfl
@[simp] theorem State.withIpFilt_bsPos (f : BitVec 2) : (s.withIpFilt f).bsPos = s.bsPos := rfl
@[simp] theorem State.withIpFilt_snapValue (f : BitVec 2) :
    (s.withIpFilt f).snapValue = s.snapValue := rfl
@[simp] theorem State.withIpFilt_snapRange (f : BitVec 2) :
    (s.withIpFilt f).snapRange = s.snapRange := rfl
@[simp] theorem State.withIpFilt_snapCount (f : BitVec 2) :
    (s.withIpFilt f).snapCount = s.snapCount := rfl
@[simp] theorem State.withIpFilt_result (f : BitVec 2) : (s.withIpFilt f).result = s.result := rfl
@[simp] theorem State.withIpFilt_fault (f : BitVec 2) : (s.withIpFilt f).fault = s.fault := rfl
@[simp] theorem State.withIpFilt_rdValid (f : BitVec 2) :
    (s.withIpFilt f).rdValid = s.rdValid := rfl
@[simp] theorem State.withIpFilt_ipFilt (f : BitVec 2) : (s.withIpFilt f).ipFilt = f := rfl
@[simp] theorem State.withIpFilt_faultInfo (f : BitVec 2) :
    (s.withIpFilt f).faultInfo = s.faultInfo := rfl
@[simp] theorem State.withIpFilt_bdY (f : BitVec 2) : (s.withIpFilt f).bdY = s.bdY := rfl
@[simp] theorem State.withIpFilt_bdC (f : BitVec 2) : (s.withIpFilt f).bdC = s.bdC := rfl
@[simp] theorem State.withIpFilt_strong (f : BitVec 2) : (s.withIpFilt f).strong = s.strong := rfl
@[simp] theorem State.withIpFilt_d (f : BitVec 2) : (s.withIpFilt f).d = s.d := rfl
@[simp] theorem State.withIpFilt_res (f : BitVec 2) : (s.withIpFilt f).res = s.res := rfl
@[simp] theorem State.withIpFilt_pred (f : BitVec 2) : (s.withIpFilt f).pred = s.pred := rfl
@[simp] theorem State.withIpFilt_out (f : BitVec 2) : (s.withIpFilt f).out = s.out := rfl
@[simp] theorem State.withIpFilt_ref (f : BitVec 2) : (s.withIpFilt f).ref = s.ref := rfl
@[simp] theorem State.withIpFilt_mem (f : BitVec 2) : (s.withIpFilt f).mem = s.mem := rfl
@[simp] theorem State.withIpFilt_bus (f : BitVec 2) : (s.withIpFilt f).bus = s.bus := rfl
@[simp] theorem State.withIpFilt_hostData (f : BitVec 2) :
    (s.withIpFilt f).hostData = s.hostData := rfl
@[simp] theorem State.withIpFilt_resets (f : BitVec 2) : (s.withIpFilt f).resets = s.resets := rfl

/-! `State.withCoder` -/

@[simp] theorem State.withCoder_value (v : BitVec 32) (r : BitVec 8) (c : BitVec 4) :
    (s.withCoder v r c).value = v := rfl
@[simp] theorem State.withCoder_range (v : BitVec 32) (r : BitVec 8) (c : BitVec 4) :
    (s.withCoder v r c).range = r := rfl
@[simp] theorem State.withCoder_count (v : BitVec 32) (r : BitVec 8) (c : BitVec 4) :
    (s.withCoder v r c).count = c := rfl
@[simp] theorem State.withCoder_bsBase (v : BitVec 32) (r : BitVec 8) (c : BitVec 4) :
    (s.withCoder v r c).bsBase = s.bsBase := rfl
@[simp] theorem State.withCoder_bsLen (v : BitVec 32) (r : BitVec 8) (c : BitVec 4) :
    (s.withCoder v r c).bsLen = s.bsLen := rfl
@[simp] theorem State.withCoder_bsPos (v : BitVec 32) (r : BitVec 8) (c : BitVec 4) :
    (s.withCoder v r c).bsPos = s.bsPos := rfl
@[simp] theorem State.withCoder_snapValue (v : BitVec 32) (r : BitVec 8) (c : BitVec 4) :
    (s.withCoder v r c).snapValue = s.snapValue := rfl
@[simp] theorem State.withCoder_snapRange (v : BitVec 32) (r : BitVec 8) (c : BitVec 4) :
    (s.withCoder v r c).snapRange = s.snapRange := rfl
@[simp] theorem State.withCoder_snapCount (v : BitVec 32) (r : BitVec 8) (c : BitVec 4) :
    (s.withCoder v r c).snapCount = s.snapCount := rfl
@[simp] theorem State.withCoder_result (v : BitVec 32) (r : BitVec 8) (c : BitVec 4) :
    (s.withCoder v r c).result = s.result := rfl
@[simp] theorem State.withCoder_fault (v : BitVec 32) (r : BitVec 8) (c : BitVec 4) :
    (s.withCoder v r c).fault = s.fault := rfl
@[simp] theorem State.withCoder_rdValid (v : BitVec 32) (r : BitVec 8) (c : BitVec 4) :
    (s.withCoder v r c).rdValid = s.rdValid := rfl
@[simp] theorem State.withCoder_ipFilt (v : BitVec 32) (r : BitVec 8) (c : BitVec 4) :
    (s.withCoder v r c).ipFilt = s.ipFilt := rfl
@[simp] theorem State.withCoder_faultInfo (v : BitVec 32) (r : BitVec 8) (c : BitVec 4) :
    (s.withCoder v r c).faultInfo = s.faultInfo := rfl
@[simp] theorem State.withCoder_bdY (v : BitVec 32) (r : BitVec 8) (c : BitVec 4) :
    (s.withCoder v r c).bdY = s.bdY := rfl
@[simp] theorem State.withCoder_bdC (v : BitVec 32) (r : BitVec 8) (c : BitVec 4) :
    (s.withCoder v r c).bdC = s.bdC := rfl
@[simp] theorem State.withCoder_strong (v : BitVec 32) (r : BitVec 8) (c : BitVec 4) :
    (s.withCoder v r c).strong = s.strong := rfl
@[simp] theorem State.withCoder_d (v : BitVec 32) (r : BitVec 8) (c : BitVec 4) :
    (s.withCoder v r c).d = s.d := rfl
@[simp] theorem State.withCoder_res (v : BitVec 32) (r : BitVec 8) (c : BitVec 4) :
    (s.withCoder v r c).res = s.res := rfl
@[simp] theorem State.withCoder_pred (v : BitVec 32) (r : BitVec 8) (c : BitVec 4) :
    (s.withCoder v r c).pred = s.pred := rfl
@[simp] theorem State.withCoder_out (v : BitVec 32) (r : BitVec 8) (c : BitVec 4) :
    (s.withCoder v r c).out = s.out := rfl
@[simp] theorem State.withCoder_ref (v : BitVec 32) (r : BitVec 8) (c : BitVec 4) :
    (s.withCoder v r c).ref = s.ref := rfl
@[simp] theorem State.withCoder_mem (v : BitVec 32) (r : BitVec 8) (c : BitVec 4) :
    (s.withCoder v r c).mem = s.mem := rfl
@[simp] theorem State.withCoder_bus (v : BitVec 32) (r : BitVec 8) (c : BitVec 4) :
    (s.withCoder v r c).bus = s.bus := rfl
@[simp] theorem State.withCoder_hostData (v : BitVec 32) (r : BitVec 8) (c : BitVec 4) :
    (s.withCoder v r c).hostData = s.hostData := rfl
@[simp] theorem State.withCoder_resets (v : BitVec 32) (r : BitVec 8) (c : BitVec 4) :
    (s.withCoder v r c).resets = s.resets := rfl

/-! `State.withBsPos` -/

@[simp] theorem State.withBsPos_value (p : BitVec 32) : (s.withBsPos p).value = s.value := rfl
@[simp] theorem State.withBsPos_range (p : BitVec 32) : (s.withBsPos p).range = s.range := rfl
@[simp] theorem State.withBsPos_count (p : BitVec 32) : (s.withBsPos p).count = s.count := rfl
@[simp] theorem State.withBsPos_bsBase (p : BitVec 32) : (s.withBsPos p).bsBase = s.bsBase := rfl
@[simp] theorem State.withBsPos_bsLen (p : BitVec 32) : (s.withBsPos p).bsLen = s.bsLen := rfl
@[simp] theorem State.withBsPos_bsPos (p : BitVec 32) : (s.withBsPos p).bsPos = p := rfl
@[simp] theorem State.withBsPos_snapValue (p : BitVec 32) :
    (s.withBsPos p).snapValue = s.snapValue := rfl
@[simp] theorem State.withBsPos_snapRange (p : BitVec 32) :
    (s.withBsPos p).snapRange = s.snapRange := rfl
@[simp] theorem State.withBsPos_snapCount (p : BitVec 32) :
    (s.withBsPos p).snapCount = s.snapCount := rfl
@[simp] theorem State.withBsPos_result (p : BitVec 32) : (s.withBsPos p).result = s.result := rfl
@[simp] theorem State.withBsPos_fault (p : BitVec 32) : (s.withBsPos p).fault = s.fault := rfl
@[simp] theorem State.withBsPos_rdValid (p : BitVec 32) : (s.withBsPos p).rdValid = s.rdValid := rfl
@[simp] theorem State.withBsPos_ipFilt (p : BitVec 32) : (s.withBsPos p).ipFilt = s.ipFilt := rfl
@[simp] theorem State.withBsPos_faultInfo (p : BitVec 32) :
    (s.withBsPos p).faultInfo = s.faultInfo := rfl
@[simp] theorem State.withBsPos_bdY (p : BitVec 32) : (s.withBsPos p).bdY = s.bdY := rfl
@[simp] theorem State.withBsPos_bdC (p : BitVec 32) : (s.withBsPos p).bdC = s.bdC := rfl
@[simp] theorem State.withBsPos_strong (p : BitVec 32) : (s.withBsPos p).strong = s.strong := rfl
@[simp] theorem State.withBsPos_d (p : BitVec 32) : (s.withBsPos p).d = s.d := rfl
@[simp] theorem State.withBsPos_res (p : BitVec 32) : (s.withBsPos p).res = s.res := rfl
@[simp] theorem State.withBsPos_pred (p : BitVec 32) : (s.withBsPos p).pred = s.pred := rfl
@[simp] theorem State.withBsPos_out (p : BitVec 32) : (s.withBsPos p).out = s.out := rfl
@[simp] theorem State.withBsPos_ref (p : BitVec 32) : (s.withBsPos p).ref = s.ref := rfl
@[simp] theorem State.withBsPos_mem (p : BitVec 32) : (s.withBsPos p).mem = s.mem := rfl
@[simp] theorem State.withBsPos_bus (p : BitVec 32) : (s.withBsPos p).bus = s.bus := rfl
@[simp] theorem State.withBsPos_hostData (p : BitVec 32) :
    (s.withBsPos p).hostData = s.hostData := rfl
@[simp] theorem State.withBsPos_resets (p : BitVec 32) : (s.withBsPos p).resets = s.resets := rfl

/-! `State.withSnap` -/

@[simp] theorem State.withSnap_value (v : BitVec 32) (r : BitVec 8) (c : BitVec 4) :
    (s.withSnap v r c).value = s.value := rfl
@[simp] theorem State.withSnap_range (v : BitVec 32) (r : BitVec 8) (c : BitVec 4) :
    (s.withSnap v r c).range = s.range := rfl
@[simp] theorem State.withSnap_count (v : BitVec 32) (r : BitVec 8) (c : BitVec 4) :
    (s.withSnap v r c).count = s.count := rfl
@[simp] theorem State.withSnap_bsBase (v : BitVec 32) (r : BitVec 8) (c : BitVec 4) :
    (s.withSnap v r c).bsBase = s.bsBase := rfl
@[simp] theorem State.withSnap_bsLen (v : BitVec 32) (r : BitVec 8) (c : BitVec 4) :
    (s.withSnap v r c).bsLen = s.bsLen := rfl
@[simp] theorem State.withSnap_bsPos (v : BitVec 32) (r : BitVec 8) (c : BitVec 4) :
    (s.withSnap v r c).bsPos = s.bsPos := rfl
@[simp] theorem State.withSnap_snapValue (v : BitVec 32) (r : BitVec 8) (c : BitVec 4) :
    (s.withSnap v r c).snapValue = v := rfl
@[simp] theorem State.withSnap_snapRange (v : BitVec 32) (r : BitVec 8) (c : BitVec 4) :
    (s.withSnap v r c).snapRange = r := rfl
@[simp] theorem State.withSnap_snapCount (v : BitVec 32) (r : BitVec 8) (c : BitVec 4) :
    (s.withSnap v r c).snapCount = c := rfl
@[simp] theorem State.withSnap_result (v : BitVec 32) (r : BitVec 8) (c : BitVec 4) :
    (s.withSnap v r c).result = s.result := rfl
@[simp] theorem State.withSnap_fault (v : BitVec 32) (r : BitVec 8) (c : BitVec 4) :
    (s.withSnap v r c).fault = s.fault := rfl
@[simp] theorem State.withSnap_rdValid (v : BitVec 32) (r : BitVec 8) (c : BitVec 4) :
    (s.withSnap v r c).rdValid = s.rdValid := rfl
@[simp] theorem State.withSnap_ipFilt (v : BitVec 32) (r : BitVec 8) (c : BitVec 4) :
    (s.withSnap v r c).ipFilt = s.ipFilt := rfl
@[simp] theorem State.withSnap_faultInfo (v : BitVec 32) (r : BitVec 8) (c : BitVec 4) :
    (s.withSnap v r c).faultInfo = s.faultInfo := rfl
@[simp] theorem State.withSnap_bdY (v : BitVec 32) (r : BitVec 8) (c : BitVec 4) :
    (s.withSnap v r c).bdY = s.bdY := rfl
@[simp] theorem State.withSnap_bdC (v : BitVec 32) (r : BitVec 8) (c : BitVec 4) :
    (s.withSnap v r c).bdC = s.bdC := rfl
@[simp] theorem State.withSnap_strong (v : BitVec 32) (r : BitVec 8) (c : BitVec 4) :
    (s.withSnap v r c).strong = s.strong := rfl
@[simp] theorem State.withSnap_d (v : BitVec 32) (r : BitVec 8) (c : BitVec 4) :
    (s.withSnap v r c).d = s.d := rfl
@[simp] theorem State.withSnap_res (v : BitVec 32) (r : BitVec 8) (c : BitVec 4) :
    (s.withSnap v r c).res = s.res := rfl
@[simp] theorem State.withSnap_pred (v : BitVec 32) (r : BitVec 8) (c : BitVec 4) :
    (s.withSnap v r c).pred = s.pred := rfl
@[simp] theorem State.withSnap_out (v : BitVec 32) (r : BitVec 8) (c : BitVec 4) :
    (s.withSnap v r c).out = s.out := rfl
@[simp] theorem State.withSnap_ref (v : BitVec 32) (r : BitVec 8) (c : BitVec 4) :
    (s.withSnap v r c).ref = s.ref := rfl
@[simp] theorem State.withSnap_mem (v : BitVec 32) (r : BitVec 8) (c : BitVec 4) :
    (s.withSnap v r c).mem = s.mem := rfl
@[simp] theorem State.withSnap_bus (v : BitVec 32) (r : BitVec 8) (c : BitVec 4) :
    (s.withSnap v r c).bus = s.bus := rfl
@[simp] theorem State.withSnap_hostData (v : BitVec 32) (r : BitVec 8) (c : BitVec 4) :
    (s.withSnap v r c).hostData = s.hostData := rfl
@[simp] theorem State.withSnap_resets (v : BitVec 32) (r : BitVec 8) (c : BitVec 4) :
    (s.withSnap v r c).resets = s.resets := rfl

/-! `State.withResult` -/

@[simp] theorem State.withResult_value (r : Word) : (s.withResult r).value = s.value := rfl
@[simp] theorem State.withResult_range (r : Word) : (s.withResult r).range = s.range := rfl
@[simp] theorem State.withResult_count (r : Word) : (s.withResult r).count = s.count := rfl
@[simp] theorem State.withResult_bsBase (r : Word) : (s.withResult r).bsBase = s.bsBase := rfl
@[simp] theorem State.withResult_bsLen (r : Word) : (s.withResult r).bsLen = s.bsLen := rfl
@[simp] theorem State.withResult_bsPos (r : Word) : (s.withResult r).bsPos = s.bsPos := rfl
@[simp] theorem State.withResult_snapValue (r : Word) :
    (s.withResult r).snapValue = s.snapValue := rfl
@[simp] theorem State.withResult_snapRange (r : Word) :
    (s.withResult r).snapRange = s.snapRange := rfl
@[simp] theorem State.withResult_snapCount (r : Word) :
    (s.withResult r).snapCount = s.snapCount := rfl
@[simp] theorem State.withResult_result (r : Word) : (s.withResult r).result = r := rfl
@[simp] theorem State.withResult_fault (r : Word) : (s.withResult r).fault = s.fault := rfl
@[simp] theorem State.withResult_rdValid (r : Word) : (s.withResult r).rdValid = s.rdValid := rfl
@[simp] theorem State.withResult_ipFilt (r : Word) : (s.withResult r).ipFilt = s.ipFilt := rfl
@[simp] theorem State.withResult_faultInfo (r : Word) :
    (s.withResult r).faultInfo = s.faultInfo := rfl
@[simp] theorem State.withResult_bdY (r : Word) : (s.withResult r).bdY = s.bdY := rfl
@[simp] theorem State.withResult_bdC (r : Word) : (s.withResult r).bdC = s.bdC := rfl
@[simp] theorem State.withResult_strong (r : Word) : (s.withResult r).strong = s.strong := rfl
@[simp] theorem State.withResult_d (r : Word) : (s.withResult r).d = s.d := rfl
@[simp] theorem State.withResult_res (r : Word) : (s.withResult r).res = s.res := rfl
@[simp] theorem State.withResult_pred (r : Word) : (s.withResult r).pred = s.pred := rfl
@[simp] theorem State.withResult_out (r : Word) : (s.withResult r).out = s.out := rfl
@[simp] theorem State.withResult_ref (r : Word) : (s.withResult r).ref = s.ref := rfl
@[simp] theorem State.withResult_mem (r : Word) : (s.withResult r).mem = s.mem := rfl
@[simp] theorem State.withResult_bus (r : Word) : (s.withResult r).bus = s.bus := rfl
@[simp] theorem State.withResult_hostData (r : Word) : (s.withResult r).hostData = s.hostData := rfl
@[simp] theorem State.withResult_resets (r : Word) : (s.withResult r).resets = s.resets := rfl

/-! `State.withD` -/

@[simp] theorem State.withD_value (b : Block) : (s.withD b).value = s.value := rfl
@[simp] theorem State.withD_range (b : Block) : (s.withD b).range = s.range := rfl
@[simp] theorem State.withD_count (b : Block) : (s.withD b).count = s.count := rfl
@[simp] theorem State.withD_bsBase (b : Block) : (s.withD b).bsBase = s.bsBase := rfl
@[simp] theorem State.withD_bsLen (b : Block) : (s.withD b).bsLen = s.bsLen := rfl
@[simp] theorem State.withD_bsPos (b : Block) : (s.withD b).bsPos = s.bsPos := rfl
@[simp] theorem State.withD_snapValue (b : Block) : (s.withD b).snapValue = s.snapValue := rfl
@[simp] theorem State.withD_snapRange (b : Block) : (s.withD b).snapRange = s.snapRange := rfl
@[simp] theorem State.withD_snapCount (b : Block) : (s.withD b).snapCount = s.snapCount := rfl
@[simp] theorem State.withD_result (b : Block) : (s.withD b).result = s.result := rfl
@[simp] theorem State.withD_fault (b : Block) : (s.withD b).fault = s.fault := rfl
@[simp] theorem State.withD_rdValid (b : Block) : (s.withD b).rdValid = s.rdValid := rfl
@[simp] theorem State.withD_ipFilt (b : Block) : (s.withD b).ipFilt = s.ipFilt := rfl
@[simp] theorem State.withD_faultInfo (b : Block) : (s.withD b).faultInfo = s.faultInfo := rfl
@[simp] theorem State.withD_bdY (b : Block) : (s.withD b).bdY = s.bdY := rfl
@[simp] theorem State.withD_bdC (b : Block) : (s.withD b).bdC = s.bdC := rfl
@[simp] theorem State.withD_strong (b : Block) : (s.withD b).strong = s.strong := rfl
@[simp] theorem State.withD_d (b : Block) : (s.withD b).d = b := rfl
@[simp] theorem State.withD_res (b : Block) : (s.withD b).res = s.res := rfl
@[simp] theorem State.withD_pred (b : Block) : (s.withD b).pred = s.pred := rfl
@[simp] theorem State.withD_out (b : Block) : (s.withD b).out = s.out := rfl
@[simp] theorem State.withD_ref (b : Block) : (s.withD b).ref = s.ref := rfl
@[simp] theorem State.withD_mem (b : Block) : (s.withD b).mem = s.mem := rfl
@[simp] theorem State.withD_bus (b : Block) : (s.withD b).bus = s.bus := rfl
@[simp] theorem State.withD_hostData (b : Block) : (s.withD b).hostData = s.hostData := rfl
@[simp] theorem State.withD_resets (b : Block) : (s.withD b).resets = s.resets := rfl

/-! `State.withRes` -/

@[simp] theorem State.withRes_value (b : Block) : (s.withRes b).value = s.value := rfl
@[simp] theorem State.withRes_range (b : Block) : (s.withRes b).range = s.range := rfl
@[simp] theorem State.withRes_count (b : Block) : (s.withRes b).count = s.count := rfl
@[simp] theorem State.withRes_bsBase (b : Block) : (s.withRes b).bsBase = s.bsBase := rfl
@[simp] theorem State.withRes_bsLen (b : Block) : (s.withRes b).bsLen = s.bsLen := rfl
@[simp] theorem State.withRes_bsPos (b : Block) : (s.withRes b).bsPos = s.bsPos := rfl
@[simp] theorem State.withRes_snapValue (b : Block) : (s.withRes b).snapValue = s.snapValue := rfl
@[simp] theorem State.withRes_snapRange (b : Block) : (s.withRes b).snapRange = s.snapRange := rfl
@[simp] theorem State.withRes_snapCount (b : Block) : (s.withRes b).snapCount = s.snapCount := rfl
@[simp] theorem State.withRes_result (b : Block) : (s.withRes b).result = s.result := rfl
@[simp] theorem State.withRes_fault (b : Block) : (s.withRes b).fault = s.fault := rfl
@[simp] theorem State.withRes_rdValid (b : Block) : (s.withRes b).rdValid = s.rdValid := rfl
@[simp] theorem State.withRes_ipFilt (b : Block) : (s.withRes b).ipFilt = s.ipFilt := rfl
@[simp] theorem State.withRes_faultInfo (b : Block) : (s.withRes b).faultInfo = s.faultInfo := rfl
@[simp] theorem State.withRes_bdY (b : Block) : (s.withRes b).bdY = s.bdY := rfl
@[simp] theorem State.withRes_bdC (b : Block) : (s.withRes b).bdC = s.bdC := rfl
@[simp] theorem State.withRes_strong (b : Block) : (s.withRes b).strong = s.strong := rfl
@[simp] theorem State.withRes_d (b : Block) : (s.withRes b).d = s.d := rfl
@[simp] theorem State.withRes_res (b : Block) : (s.withRes b).res = b := rfl
@[simp] theorem State.withRes_pred (b : Block) : (s.withRes b).pred = s.pred := rfl
@[simp] theorem State.withRes_out (b : Block) : (s.withRes b).out = s.out := rfl
@[simp] theorem State.withRes_ref (b : Block) : (s.withRes b).ref = s.ref := rfl
@[simp] theorem State.withRes_mem (b : Block) : (s.withRes b).mem = s.mem := rfl
@[simp] theorem State.withRes_bus (b : Block) : (s.withRes b).bus = s.bus := rfl
@[simp] theorem State.withRes_hostData (b : Block) : (s.withRes b).hostData = s.hostData := rfl
@[simp] theorem State.withRes_resets (b : Block) : (s.withRes b).resets = s.resets := rfl

/-! `State.withPred` -/

@[simp] theorem State.withPred_value (b : Block) : (s.withPred b).value = s.value := rfl
@[simp] theorem State.withPred_range (b : Block) : (s.withPred b).range = s.range := rfl
@[simp] theorem State.withPred_count (b : Block) : (s.withPred b).count = s.count := rfl
@[simp] theorem State.withPred_bsBase (b : Block) : (s.withPred b).bsBase = s.bsBase := rfl
@[simp] theorem State.withPred_bsLen (b : Block) : (s.withPred b).bsLen = s.bsLen := rfl
@[simp] theorem State.withPred_bsPos (b : Block) : (s.withPred b).bsPos = s.bsPos := rfl
@[simp] theorem State.withPred_snapValue (b : Block) : (s.withPred b).snapValue = s.snapValue := rfl
@[simp] theorem State.withPred_snapRange (b : Block) : (s.withPred b).snapRange = s.snapRange := rfl
@[simp] theorem State.withPred_snapCount (b : Block) : (s.withPred b).snapCount = s.snapCount := rfl
@[simp] theorem State.withPred_result (b : Block) : (s.withPred b).result = s.result := rfl
@[simp] theorem State.withPred_fault (b : Block) : (s.withPred b).fault = s.fault := rfl
@[simp] theorem State.withPred_rdValid (b : Block) : (s.withPred b).rdValid = s.rdValid := rfl
@[simp] theorem State.withPred_ipFilt (b : Block) : (s.withPred b).ipFilt = s.ipFilt := rfl
@[simp] theorem State.withPred_faultInfo (b : Block) : (s.withPred b).faultInfo = s.faultInfo := rfl
@[simp] theorem State.withPred_bdY (b : Block) : (s.withPred b).bdY = s.bdY := rfl
@[simp] theorem State.withPred_bdC (b : Block) : (s.withPred b).bdC = s.bdC := rfl
@[simp] theorem State.withPred_strong (b : Block) : (s.withPred b).strong = s.strong := rfl
@[simp] theorem State.withPred_d (b : Block) : (s.withPred b).d = s.d := rfl
@[simp] theorem State.withPred_res (b : Block) : (s.withPred b).res = s.res := rfl
@[simp] theorem State.withPred_pred (b : Block) : (s.withPred b).pred = b := rfl
@[simp] theorem State.withPred_out (b : Block) : (s.withPred b).out = s.out := rfl
@[simp] theorem State.withPred_ref (b : Block) : (s.withPred b).ref = s.ref := rfl
@[simp] theorem State.withPred_mem (b : Block) : (s.withPred b).mem = s.mem := rfl
@[simp] theorem State.withPred_bus (b : Block) : (s.withPred b).bus = s.bus := rfl
@[simp] theorem State.withPred_hostData (b : Block) : (s.withPred b).hostData = s.hostData := rfl
@[simp] theorem State.withPred_resets (b : Block) : (s.withPred b).resets = s.resets := rfl

/-! `State.withOut` -/

@[simp] theorem State.withOut_value (b : Block) : (s.withOut b).value = s.value := rfl
@[simp] theorem State.withOut_range (b : Block) : (s.withOut b).range = s.range := rfl
@[simp] theorem State.withOut_count (b : Block) : (s.withOut b).count = s.count := rfl
@[simp] theorem State.withOut_bsBase (b : Block) : (s.withOut b).bsBase = s.bsBase := rfl
@[simp] theorem State.withOut_bsLen (b : Block) : (s.withOut b).bsLen = s.bsLen := rfl
@[simp] theorem State.withOut_bsPos (b : Block) : (s.withOut b).bsPos = s.bsPos := rfl
@[simp] theorem State.withOut_snapValue (b : Block) : (s.withOut b).snapValue = s.snapValue := rfl
@[simp] theorem State.withOut_snapRange (b : Block) : (s.withOut b).snapRange = s.snapRange := rfl
@[simp] theorem State.withOut_snapCount (b : Block) : (s.withOut b).snapCount = s.snapCount := rfl
@[simp] theorem State.withOut_result (b : Block) : (s.withOut b).result = s.result := rfl
@[simp] theorem State.withOut_fault (b : Block) : (s.withOut b).fault = s.fault := rfl
@[simp] theorem State.withOut_rdValid (b : Block) : (s.withOut b).rdValid = s.rdValid := rfl
@[simp] theorem State.withOut_ipFilt (b : Block) : (s.withOut b).ipFilt = s.ipFilt := rfl
@[simp] theorem State.withOut_faultInfo (b : Block) : (s.withOut b).faultInfo = s.faultInfo := rfl
@[simp] theorem State.withOut_bdY (b : Block) : (s.withOut b).bdY = s.bdY := rfl
@[simp] theorem State.withOut_bdC (b : Block) : (s.withOut b).bdC = s.bdC := rfl
@[simp] theorem State.withOut_strong (b : Block) : (s.withOut b).strong = s.strong := rfl
@[simp] theorem State.withOut_d (b : Block) : (s.withOut b).d = s.d := rfl
@[simp] theorem State.withOut_res (b : Block) : (s.withOut b).res = s.res := rfl
@[simp] theorem State.withOut_pred (b : Block) : (s.withOut b).pred = s.pred := rfl
@[simp] theorem State.withOut_out (b : Block) : (s.withOut b).out = b := rfl
@[simp] theorem State.withOut_ref (b : Block) : (s.withOut b).ref = s.ref := rfl
@[simp] theorem State.withOut_mem (b : Block) : (s.withOut b).mem = s.mem := rfl
@[simp] theorem State.withOut_bus (b : Block) : (s.withOut b).bus = s.bus := rfl
@[simp] theorem State.withOut_hostData (b : Block) : (s.withOut b).hostData = s.hostData := rfl
@[simp] theorem State.withOut_resets (b : Block) : (s.withOut b).resets = s.resets := rfl

/-! `State.withRef` -/

@[simp] theorem State.withRef_value (r : RefLine) : (s.withRef r).value = s.value := rfl
@[simp] theorem State.withRef_range (r : RefLine) : (s.withRef r).range = s.range := rfl
@[simp] theorem State.withRef_count (r : RefLine) : (s.withRef r).count = s.count := rfl
@[simp] theorem State.withRef_bsBase (r : RefLine) : (s.withRef r).bsBase = s.bsBase := rfl
@[simp] theorem State.withRef_bsLen (r : RefLine) : (s.withRef r).bsLen = s.bsLen := rfl
@[simp] theorem State.withRef_bsPos (r : RefLine) : (s.withRef r).bsPos = s.bsPos := rfl
@[simp] theorem State.withRef_snapValue (r : RefLine) : (s.withRef r).snapValue = s.snapValue := rfl
@[simp] theorem State.withRef_snapRange (r : RefLine) : (s.withRef r).snapRange = s.snapRange := rfl
@[simp] theorem State.withRef_snapCount (r : RefLine) : (s.withRef r).snapCount = s.snapCount := rfl
@[simp] theorem State.withRef_result (r : RefLine) : (s.withRef r).result = s.result := rfl
@[simp] theorem State.withRef_fault (r : RefLine) : (s.withRef r).fault = s.fault := rfl
@[simp] theorem State.withRef_rdValid (r : RefLine) : (s.withRef r).rdValid = s.rdValid := rfl
@[simp] theorem State.withRef_ipFilt (r : RefLine) : (s.withRef r).ipFilt = s.ipFilt := rfl
@[simp] theorem State.withRef_faultInfo (r : RefLine) : (s.withRef r).faultInfo = s.faultInfo := rfl
@[simp] theorem State.withRef_bdY (r : RefLine) : (s.withRef r).bdY = s.bdY := rfl
@[simp] theorem State.withRef_bdC (r : RefLine) : (s.withRef r).bdC = s.bdC := rfl
@[simp] theorem State.withRef_strong (r : RefLine) : (s.withRef r).strong = s.strong := rfl
@[simp] theorem State.withRef_d (r : RefLine) : (s.withRef r).d = s.d := rfl
@[simp] theorem State.withRef_res (r : RefLine) : (s.withRef r).res = s.res := rfl
@[simp] theorem State.withRef_pred (r : RefLine) : (s.withRef r).pred = s.pred := rfl
@[simp] theorem State.withRef_out (r : RefLine) : (s.withRef r).out = s.out := rfl
@[simp] theorem State.withRef_ref (r : RefLine) : (s.withRef r).ref = r := rfl
@[simp] theorem State.withRef_mem (r : RefLine) : (s.withRef r).mem = s.mem := rfl
@[simp] theorem State.withRef_bus (r : RefLine) : (s.withRef r).bus = s.bus := rfl
@[simp] theorem State.withRef_hostData (r : RefLine) : (s.withRef r).hostData = s.hostData := rfl
@[simp] theorem State.withRef_resets (r : RefLine) : (s.withRef r).resets = s.resets := rfl

/-! `State.withMemByte` -/

@[simp] theorem State.withMemByte_value (a : BitVec 32) (b : Byte) :
    (s.withMemByte a b).value = s.value := rfl
@[simp] theorem State.withMemByte_range (a : BitVec 32) (b : Byte) :
    (s.withMemByte a b).range = s.range := rfl
@[simp] theorem State.withMemByte_count (a : BitVec 32) (b : Byte) :
    (s.withMemByte a b).count = s.count := rfl
@[simp] theorem State.withMemByte_bsBase (a : BitVec 32) (b : Byte) :
    (s.withMemByte a b).bsBase = s.bsBase := rfl
@[simp] theorem State.withMemByte_bsLen (a : BitVec 32) (b : Byte) :
    (s.withMemByte a b).bsLen = s.bsLen := rfl
@[simp] theorem State.withMemByte_bsPos (a : BitVec 32) (b : Byte) :
    (s.withMemByte a b).bsPos = s.bsPos := rfl
@[simp] theorem State.withMemByte_snapValue (a : BitVec 32) (b : Byte) :
    (s.withMemByte a b).snapValue = s.snapValue := rfl
@[simp] theorem State.withMemByte_snapRange (a : BitVec 32) (b : Byte) :
    (s.withMemByte a b).snapRange = s.snapRange := rfl
@[simp] theorem State.withMemByte_snapCount (a : BitVec 32) (b : Byte) :
    (s.withMemByte a b).snapCount = s.snapCount := rfl
@[simp] theorem State.withMemByte_result (a : BitVec 32) (b : Byte) :
    (s.withMemByte a b).result = s.result := rfl
@[simp] theorem State.withMemByte_fault (a : BitVec 32) (b : Byte) :
    (s.withMemByte a b).fault = s.fault := rfl
@[simp] theorem State.withMemByte_rdValid (a : BitVec 32) (b : Byte) :
    (s.withMemByte a b).rdValid = s.rdValid := rfl
@[simp] theorem State.withMemByte_ipFilt (a : BitVec 32) (b : Byte) :
    (s.withMemByte a b).ipFilt = s.ipFilt := rfl
@[simp] theorem State.withMemByte_faultInfo (a : BitVec 32) (b : Byte) :
    (s.withMemByte a b).faultInfo = s.faultInfo := rfl
@[simp] theorem State.withMemByte_bdY (a : BitVec 32) (b : Byte) :
    (s.withMemByte a b).bdY = s.bdY := rfl
@[simp] theorem State.withMemByte_bdC (a : BitVec 32) (b : Byte) :
    (s.withMemByte a b).bdC = s.bdC := rfl
@[simp] theorem State.withMemByte_strong (a : BitVec 32) (b : Byte) :
    (s.withMemByte a b).strong = s.strong := rfl
@[simp] theorem State.withMemByte_d (a : BitVec 32) (b : Byte) : (s.withMemByte a b).d = s.d := rfl
@[simp] theorem State.withMemByte_res (a : BitVec 32) (b : Byte) :
    (s.withMemByte a b).res = s.res := rfl
@[simp] theorem State.withMemByte_pred (a : BitVec 32) (b : Byte) :
    (s.withMemByte a b).pred = s.pred := rfl
@[simp] theorem State.withMemByte_out (a : BitVec 32) (b : Byte) :
    (s.withMemByte a b).out = s.out := rfl
@[simp] theorem State.withMemByte_ref (a : BitVec 32) (b : Byte) :
    (s.withMemByte a b).ref = s.ref := rfl
@[simp] theorem State.withMemByte_mem (a : BitVec 32) (b : Byte) :
    (s.withMemByte a b).mem = memPut s.mem a.toNat b := rfl
@[simp] theorem State.withMemByte_bus (a : BitVec 32) (b : Byte) :
    (s.withMemByte a b).bus = s.bus := rfl
@[simp] theorem State.withMemByte_hostData (a : BitVec 32) (b : Byte) :
    (s.withMemByte a b).hostData = s.hostData := rfl
@[simp] theorem State.withMemByte_resets (a : BitVec 32) (b : Byte) :
    (s.withMemByte a b).resets = s.resets := rfl

/-! `State.withCfg` -/

@[simp] theorem State.withCfg_value (w : Word) : (s.withCfg w).value = s.value := rfl
@[simp] theorem State.withCfg_range (w : Word) : (s.withCfg w).range = s.range := rfl
@[simp] theorem State.withCfg_count (w : Word) : (s.withCfg w).count = s.count := rfl
@[simp] theorem State.withCfg_bsBase (w : Word) : (s.withCfg w).bsBase = s.bsBase := rfl
@[simp] theorem State.withCfg_bsLen (w : Word) : (s.withCfg w).bsLen = s.bsLen := rfl
@[simp] theorem State.withCfg_bsPos (w : Word) : (s.withCfg w).bsPos = s.bsPos := rfl
@[simp] theorem State.withCfg_snapValue (w : Word) : (s.withCfg w).snapValue = s.snapValue := rfl
@[simp] theorem State.withCfg_snapRange (w : Word) : (s.withCfg w).snapRange = s.snapRange := rfl
@[simp] theorem State.withCfg_snapCount (w : Word) : (s.withCfg w).snapCount = s.snapCount := rfl
@[simp] theorem State.withCfg_result (w : Word) : (s.withCfg w).result = s.result := rfl
@[simp] theorem State.withCfg_fault (w : Word) : (s.withCfg w).fault = s.fault := rfl
@[simp] theorem State.withCfg_rdValid (w : Word) : (s.withCfg w).rdValid = s.rdValid := rfl
@[simp] theorem State.withCfg_ipFilt (w : Word) : (s.withCfg w).ipFilt = s.ipFilt := rfl
@[simp] theorem State.withCfg_faultInfo (w : Word) : (s.withCfg w).faultInfo = s.faultInfo := rfl
@[simp] theorem State.withCfg_bdY (w : Word) :
    (s.withCfg w).bdY = storedDepth (w.extractLsb' 0 4) := rfl
@[simp] theorem State.withCfg_bdC (w : Word) :
    (s.withCfg w).bdC = storedDepth (w.extractLsb' 4 4) := rfl
@[simp] theorem State.withCfg_strong (w : Word) : (s.withCfg w).strong = w.getLsbD 8 := rfl
@[simp] theorem State.withCfg_d (w : Word) : (s.withCfg w).d = s.d := rfl
@[simp] theorem State.withCfg_res (w : Word) : (s.withCfg w).res = s.res := rfl
@[simp] theorem State.withCfg_pred (w : Word) : (s.withCfg w).pred = s.pred := rfl
@[simp] theorem State.withCfg_out (w : Word) : (s.withCfg w).out = s.out := rfl
@[simp] theorem State.withCfg_ref (w : Word) : (s.withCfg w).ref = s.ref := rfl
@[simp] theorem State.withCfg_mem (w : Word) : (s.withCfg w).mem = s.mem := rfl
@[simp] theorem State.withCfg_bus (w : Word) : (s.withCfg w).bus = s.bus := rfl
@[simp] theorem State.withCfg_hostData (w : Word) : (s.withCfg w).hostData = s.hostData := rfl
@[simp] theorem State.withCfg_resets (w : Word) : (s.withCfg w).resets = s.resets := rfl

/-! `State.withWindow` -/

@[simp] theorem State.withWindow_value (b l p : BitVec 32) :
    (s.withWindow b l p).value = s.value := rfl
@[simp] theorem State.withWindow_range (b l p : BitVec 32) :
    (s.withWindow b l p).range = s.range := rfl
@[simp] theorem State.withWindow_count (b l p : BitVec 32) :
    (s.withWindow b l p).count = s.count := rfl
@[simp] theorem State.withWindow_bsBase (b l p : BitVec 32) : (s.withWindow b l p).bsBase = b := rfl
@[simp] theorem State.withWindow_bsLen (b l p : BitVec 32) : (s.withWindow b l p).bsLen = l := rfl
@[simp] theorem State.withWindow_bsPos (b l p : BitVec 32) : (s.withWindow b l p).bsPos = p := rfl
@[simp] theorem State.withWindow_snapValue (b l p : BitVec 32) :
    (s.withWindow b l p).snapValue = s.snapValue := rfl
@[simp] theorem State.withWindow_snapRange (b l p : BitVec 32) :
    (s.withWindow b l p).snapRange = s.snapRange := rfl
@[simp] theorem State.withWindow_snapCount (b l p : BitVec 32) :
    (s.withWindow b l p).snapCount = s.snapCount := rfl
@[simp] theorem State.withWindow_result (b l p : BitVec 32) :
    (s.withWindow b l p).result = s.result := rfl
@[simp] theorem State.withWindow_fault (b l p : BitVec 32) :
    (s.withWindow b l p).fault = s.fault := rfl
@[simp] theorem State.withWindow_rdValid (b l p : BitVec 32) :
    (s.withWindow b l p).rdValid = s.rdValid := rfl
@[simp] theorem State.withWindow_ipFilt (b l p : BitVec 32) :
    (s.withWindow b l p).ipFilt = s.ipFilt := rfl
@[simp] theorem State.withWindow_faultInfo (b l p : BitVec 32) :
    (s.withWindow b l p).faultInfo = s.faultInfo := rfl
@[simp] theorem State.withWindow_bdY (b l p : BitVec 32) : (s.withWindow b l p).bdY = s.bdY := rfl
@[simp] theorem State.withWindow_bdC (b l p : BitVec 32) : (s.withWindow b l p).bdC = s.bdC := rfl
@[simp] theorem State.withWindow_strong (b l p : BitVec 32) :
    (s.withWindow b l p).strong = s.strong := rfl
@[simp] theorem State.withWindow_d (b l p : BitVec 32) : (s.withWindow b l p).d = s.d := rfl
@[simp] theorem State.withWindow_res (b l p : BitVec 32) : (s.withWindow b l p).res = s.res := rfl
@[simp] theorem State.withWindow_pred (b l p : BitVec 32) :
    (s.withWindow b l p).pred = s.pred := rfl
@[simp] theorem State.withWindow_out (b l p : BitVec 32) : (s.withWindow b l p).out = s.out := rfl
@[simp] theorem State.withWindow_ref (b l p : BitVec 32) : (s.withWindow b l p).ref = s.ref := rfl
@[simp] theorem State.withWindow_mem (b l p : BitVec 32) : (s.withWindow b l p).mem = s.mem := rfl
@[simp] theorem State.withWindow_bus (b l p : BitVec 32) : (s.withWindow b l p).bus = s.bus := rfl
@[simp] theorem State.withWindow_hostData (b l p : BitVec 32) :
    (s.withWindow b l p).hostData = s.hostData := rfl
@[simp] theorem State.withWindow_resets (b l p : BitVec 32) :
    (s.withWindow b l p).resets = s.resets := rfl

/-! `State.withHostData` -/

@[simp] theorem State.withHostData_value (w : Word) : (s.withHostData w).value = s.value := rfl
@[simp] theorem State.withHostData_range (w : Word) : (s.withHostData w).range = s.range := rfl
@[simp] theorem State.withHostData_count (w : Word) : (s.withHostData w).count = s.count := rfl
@[simp] theorem State.withHostData_bsBase (w : Word) : (s.withHostData w).bsBase = s.bsBase := rfl
@[simp] theorem State.withHostData_bsLen (w : Word) : (s.withHostData w).bsLen = s.bsLen := rfl
@[simp] theorem State.withHostData_bsPos (w : Word) : (s.withHostData w).bsPos = s.bsPos := rfl
@[simp] theorem State.withHostData_snapValue (w : Word) :
    (s.withHostData w).snapValue = s.snapValue := rfl
@[simp] theorem State.withHostData_snapRange (w : Word) :
    (s.withHostData w).snapRange = s.snapRange := rfl
@[simp] theorem State.withHostData_snapCount (w : Word) :
    (s.withHostData w).snapCount = s.snapCount := rfl
@[simp] theorem State.withHostData_result (w : Word) : (s.withHostData w).result = s.result := rfl
@[simp] theorem State.withHostData_fault (w : Word) : (s.withHostData w).fault = s.fault := rfl
@[simp] theorem State.withHostData_rdValid (w : Word) :
    (s.withHostData w).rdValid = s.rdValid := rfl
@[simp] theorem State.withHostData_ipFilt (w : Word) : (s.withHostData w).ipFilt = s.ipFilt := rfl
@[simp] theorem State.withHostData_faultInfo (w : Word) :
    (s.withHostData w).faultInfo = s.faultInfo := rfl
@[simp] theorem State.withHostData_bdY (w : Word) : (s.withHostData w).bdY = s.bdY := rfl
@[simp] theorem State.withHostData_bdC (w : Word) : (s.withHostData w).bdC = s.bdC := rfl
@[simp] theorem State.withHostData_strong (w : Word) : (s.withHostData w).strong = s.strong := rfl
@[simp] theorem State.withHostData_d (w : Word) : (s.withHostData w).d = s.d := rfl
@[simp] theorem State.withHostData_res (w : Word) : (s.withHostData w).res = s.res := rfl
@[simp] theorem State.withHostData_pred (w : Word) : (s.withHostData w).pred = s.pred := rfl
@[simp] theorem State.withHostData_out (w : Word) : (s.withHostData w).out = s.out := rfl
@[simp] theorem State.withHostData_ref (w : Word) : (s.withHostData w).ref = s.ref := rfl
@[simp] theorem State.withHostData_mem (w : Word) : (s.withHostData w).mem = s.mem := rfl
@[simp] theorem State.withHostData_bus (w : Word) : (s.withHostData w).bus = s.bus := rfl
@[simp] theorem State.withHostData_hostData (w : Word) : (s.withHostData w).hostData = w := rfl
@[simp] theorem State.withHostData_resets (w : Word) : (s.withHostData w).resets = s.resets := rfl

/-! `State.withBus` -/

@[simp] theorem State.withBus_value (q : List BusEvent) : (s.withBus q).value = s.value := rfl
@[simp] theorem State.withBus_range (q : List BusEvent) : (s.withBus q).range = s.range := rfl
@[simp] theorem State.withBus_count (q : List BusEvent) : (s.withBus q).count = s.count := rfl
@[simp] theorem State.withBus_bsBase (q : List BusEvent) : (s.withBus q).bsBase = s.bsBase := rfl
@[simp] theorem State.withBus_bsLen (q : List BusEvent) : (s.withBus q).bsLen = s.bsLen := rfl
@[simp] theorem State.withBus_bsPos (q : List BusEvent) : (s.withBus q).bsPos = s.bsPos := rfl
@[simp] theorem State.withBus_snapValue (q : List BusEvent) :
    (s.withBus q).snapValue = s.snapValue := rfl
@[simp] theorem State.withBus_snapRange (q : List BusEvent) :
    (s.withBus q).snapRange = s.snapRange := rfl
@[simp] theorem State.withBus_snapCount (q : List BusEvent) :
    (s.withBus q).snapCount = s.snapCount := rfl
@[simp] theorem State.withBus_result (q : List BusEvent) : (s.withBus q).result = s.result := rfl
@[simp] theorem State.withBus_fault (q : List BusEvent) : (s.withBus q).fault = s.fault := rfl
@[simp] theorem State.withBus_rdValid (q : List BusEvent) : (s.withBus q).rdValid = s.rdValid := rfl
@[simp] theorem State.withBus_ipFilt (q : List BusEvent) : (s.withBus q).ipFilt = s.ipFilt := rfl
@[simp] theorem State.withBus_faultInfo (q : List BusEvent) :
    (s.withBus q).faultInfo = s.faultInfo := rfl
@[simp] theorem State.withBus_bdY (q : List BusEvent) : (s.withBus q).bdY = s.bdY := rfl
@[simp] theorem State.withBus_bdC (q : List BusEvent) : (s.withBus q).bdC = s.bdC := rfl
@[simp] theorem State.withBus_strong (q : List BusEvent) : (s.withBus q).strong = s.strong := rfl
@[simp] theorem State.withBus_d (q : List BusEvent) : (s.withBus q).d = s.d := rfl
@[simp] theorem State.withBus_res (q : List BusEvent) : (s.withBus q).res = s.res := rfl
@[simp] theorem State.withBus_pred (q : List BusEvent) : (s.withBus q).pred = s.pred := rfl
@[simp] theorem State.withBus_out (q : List BusEvent) : (s.withBus q).out = s.out := rfl
@[simp] theorem State.withBus_ref (q : List BusEvent) : (s.withBus q).ref = s.ref := rfl
@[simp] theorem State.withBus_mem (q : List BusEvent) : (s.withBus q).mem = s.mem := rfl
@[simp] theorem State.withBus_bus (q : List BusEvent) : (s.withBus q).bus = q := rfl
@[simp] theorem State.withBus_hostData (q : List BusEvent) :
    (s.withBus q).hostData = s.hostData := rfl
@[simp] theorem State.withBus_resets (q : List BusEvent) : (s.withBus q).resets = s.resets := rfl

/-! `State.softReset` -/

@[simp] theorem State.softReset_value : (s.softReset).value = 0#32 := rfl
@[simp] theorem State.softReset_range : (s.softReset).range = 255#8 := rfl
@[simp] theorem State.softReset_count : (s.softReset).count = -8#4 := rfl
@[simp] theorem State.softReset_bsBase : (s.softReset).bsBase = 0#32 := rfl
@[simp] theorem State.softReset_bsLen : (s.softReset).bsLen = 0#32 := rfl
@[simp] theorem State.softReset_bsPos : (s.softReset).bsPos = 0#32 := rfl
@[simp] theorem State.softReset_snapValue : (s.softReset).snapValue = 0#32 := rfl
@[simp] theorem State.softReset_snapRange : (s.softReset).snapRange = 0#8 := rfl
@[simp] theorem State.softReset_snapCount : (s.softReset).snapCount = 0#4 := rfl
@[simp] theorem State.softReset_result : (s.softReset).result = 0#32 := rfl
@[simp] theorem State.softReset_fault : (s.softReset).fault = 0#8 := rfl
@[simp] theorem State.softReset_rdValid : (s.softReset).rdValid = false := rfl
@[simp] theorem State.softReset_ipFilt : (s.softReset).ipFilt = 0#2 := rfl
@[simp] theorem State.softReset_faultInfo : (s.softReset).faultInfo = 0#32 := rfl
@[simp] theorem State.softReset_bdY : (s.softReset).bdY = 8#4 := rfl
@[simp] theorem State.softReset_bdC : (s.softReset).bdC = 8#4 := rfl
@[simp] theorem State.softReset_strong : (s.softReset).strong = false := rfl
@[simp] theorem State.softReset_d : (s.softReset).d = s.d := rfl
@[simp] theorem State.softReset_res : (s.softReset).res = s.res := rfl
@[simp] theorem State.softReset_pred : (s.softReset).pred = s.pred := rfl
@[simp] theorem State.softReset_out : (s.softReset).out = s.out := rfl
@[simp] theorem State.softReset_ref : (s.softReset).ref = s.ref := rfl
@[simp] theorem State.softReset_mem : (s.softReset).mem = s.mem := rfl
@[simp] theorem State.softReset_bus : (s.softReset).bus = s.bus := rfl
@[simp] theorem State.softReset_hostData : (s.softReset).hostData = s.hostData := rfl
@[simp] theorem State.softReset_resets : (s.softReset).resets = s.resets := rfl

/-! `State.hardReset` -/

@[simp] theorem State.hardReset_value : (s.hardReset).value = 0#32 := rfl
@[simp] theorem State.hardReset_range : (s.hardReset).range = 255#8 := rfl
@[simp] theorem State.hardReset_count : (s.hardReset).count = -8#4 := rfl
@[simp] theorem State.hardReset_bsBase : (s.hardReset).bsBase = 0#32 := rfl
@[simp] theorem State.hardReset_bsLen : (s.hardReset).bsLen = 0#32 := rfl
@[simp] theorem State.hardReset_bsPos : (s.hardReset).bsPos = 0#32 := rfl
@[simp] theorem State.hardReset_snapValue : (s.hardReset).snapValue = 0#32 := rfl
@[simp] theorem State.hardReset_snapRange : (s.hardReset).snapRange = 0#8 := rfl
@[simp] theorem State.hardReset_snapCount : (s.hardReset).snapCount = 0#4 := rfl
@[simp] theorem State.hardReset_result : (s.hardReset).result = 0#32 := rfl
@[simp] theorem State.hardReset_fault : (s.hardReset).fault = 0#8 := rfl
@[simp] theorem State.hardReset_rdValid : (s.hardReset).rdValid = false := rfl
@[simp] theorem State.hardReset_ipFilt : (s.hardReset).ipFilt = 0#2 := rfl
@[simp] theorem State.hardReset_faultInfo : (s.hardReset).faultInfo = 0#32 := rfl
@[simp] theorem State.hardReset_bdY : (s.hardReset).bdY = 8#4 := rfl
@[simp] theorem State.hardReset_bdC : (s.hardReset).bdC = 8#4 := rfl
@[simp] theorem State.hardReset_strong : (s.hardReset).strong = false := rfl
@[simp] theorem State.hardReset_d :
    (s.hardReset).d = .tabulate 1024 (Config.powerOnD (s.resets + 1)) := rfl
@[simp] theorem State.hardReset_res :
    (s.hardReset).res = .tabulate 1024 (Config.powerOnRes (s.resets + 1)) := rfl
@[simp] theorem State.hardReset_pred :
    (s.hardReset).pred = .tabulate 1024 (Config.powerOnPred (s.resets + 1)) := rfl
@[simp] theorem State.hardReset_out :
    (s.hardReset).out = .tabulate 1024 (Config.powerOnOut (s.resets + 1)) := rfl
@[simp] theorem State.hardReset_ref :
    (s.hardReset).ref = .tabulate 129 fun i =>
      ⟨Config.powerOnRefAvail (s.resets + 1) i, Config.powerOnRefVal (s.resets + 1) i⟩ := rfl
@[simp] theorem State.hardReset_mem : (s.hardReset).mem = s.mem := rfl
@[simp] theorem State.hardReset_bus : (s.hardReset).bus = s.bus := rfl
@[simp] theorem State.hardReset_hostData : (s.hardReset).hostData = s.hostData := rfl
@[simp] theorem State.hardReset_resets : (s.hardReset).resets = s.resets + 1 := rfl

end Sys2Proof.Machine
end

