-- ==== Sys2Proof/Laws/Ops.lean ====
section
/-!
SUPPORT. One lemma for each shared operation of Machine/Ops.lean that says once everything it can
do; proofs about commands cite these and do not unfold the operations.
-/

namespace Sys2Proof.Machine

/-! ### The checks before a command -/

theorem faulted_eq_false {s : State} : s.faulted = false ↔ s.fault = 0#8 := by
  simp [State.faulted]

theorem faulted_eq_true {s : State} : s.faulted = true ↔ s.fault ≠ 0#8 := by
  simp [State.faulted]

/-- With no fault recorded and the field limits kept, a command runs. -/
theorem checked_ready {i : Instr} {s : State} (hf : s.fault = 0#8) (hw : i.WellFormed)
    (run : State → StepOutcome) : checked i s run = run s := by
  rw [checked, faulted_eq_false.2 hf]
  simp [show i.wf = true from hw]

/-- With a fault recorded a command is discarded. -/
theorem checked_faulted {i : Instr} {s : State} (hf : s.fault ≠ 0#8)
    (run : State → StepOutcome) : checked i s run = .next s := by
  rw [checked, faulted_eq_true.2 hf]
  rfl

/-- A command that breaks a field limit raises IllegalCommand. -/
theorem checked_illFormed {i : Instr} {s : State} (hf : s.fault = 0#8) (hw : i.wf = false)
    (run : State → StepOutcome) :
    checked i s run = .next (s.raise .illegalCommand (encode i)) := by
  rw [checked, faulted_eq_false.2 hf, hw]
  rfl

/-- Everything the checks can do. -/
theorem checked_next {i : Instr} {s t : State} {run : State → StepOutcome}
    (h : checked i s run = .next t) :
    (s.fault ≠ 0#8 ∧ t = s) ∨ (s.fault = 0#8 ∧ i.WellFormed ∧ run s = .next t) ∨
    (s.fault = 0#8 ∧ i.wf = false ∧ t = s.raise .illegalCommand (encode i)) := by
  rcases eq_or_ne s.fault 0#8 with hf | hf
  · cases hw : i.wf
    · rw [checked_illFormed hf hw] at h
      cases h
      exact .inr (.inr ⟨hf, rfl, rfl⟩)
    · rw [checked_ready hf hw] at h
      exact .inr (.inl ⟨hf, hw, h⟩)
  · rw [checked_faulted hf] at h
    cases h
    exact .inl ⟨hf, rfl⟩

theorem needsDecoder_valid {i : Instr} {s : State} (h : s.rdValid = true)
    (run : State → StepOutcome) : needsDecoder i s run = run s := by
  rw [needsDecoder, if_pos h]

theorem needsDecoder_invalid {i : Instr} {s : State} (h : s.rdValid = false)
    (run : State → StepOutcome) :
    needsDecoder i s run = .next (s.raise .rdNotInit (encode i)) := by
  simp [needsDecoder, h]

/-! ### The refill -/

theorem refill_eq_none {s : State} : refill s = none ↔ s.bsLen ≤ s.bsPos := by
  unfold refill
  split <;> simp_all

/-- Everything the refill can do: it fetches one byte of the window. -/
theorem refill_eq_some {s t : State} :
    refill s = some t ↔ s.bsPos < s.bsLen ∧
      t = { s with
        value := (s.value <<< 8) ||| (nextByte s).setWidth 32
        count := s.count + 8#4
        bsPos := s.bsPos + 1#32 } := by
  unfold refill
  split
  · rename_i h
    simp only [reduceCtorEq, false_iff, not_and]
    intro h'
    exact absurd h (by bv_omega)
  · rename_i h
    simp only [Option.some.injEq]
    constructor
    · rintro rfl
      exact ⟨by bv_omega, rfl⟩
    · rintro ⟨-, rfl⟩
      rfl

/-- Refill's COUNT, called with COUNT < 0: eight more (40_range_decoder.md R66). -/
theorem refill_count {c : BitVec 4} (h : c.toInt < 0) : (c + 8#4).toInt = c.toInt + 8 := by
  revert h c
  decide

/-- A non-negative COUNT is its own value, at most 7. -/
theorem count_nonneg {c : BitVec 4} (h : 0 ≤ c.toInt) : c.toInt = c.toNat ∧ c.toNat ≤ 7 := by
  revert h c
  decide

/-- VALUE after a refill, as a number (40_range_decoder.md R66). -/
theorem refill_value (v : BitVec 32) (b : Byte) :
    ((v <<< 8) ||| b.setWidth 32).toNat = (v.toNat * 256 + b.toNat) % 2 ^ 32 := by
  have hb := b.isLt
  have hv := v.isLt
  rw [BitVec.toNat_or, BitVec.toNat_shiftLeft, BitVec.toNat_setWidth, Nat.shiftLeft_eq,
    Nat.mod_eq_of_lt (by omega : b.toNat < 2 ^ 32)]
  have e : v.toNat * 2 ^ 8 % 2 ^ 32 = (v.toNat % 2 ^ 24) <<< 8 := by
    rw [Nat.shiftLeft_eq]
    omega
  rw [e, ← Nat.shiftLeft_add_eq_or_of_lt (by omega), Nat.shiftLeft_eq]
  omega

/-! ### One decision -/

/-- The split as a natural number, RANGE at least 1 (40_range_decoder.md R68). -/
theorem splitOf_eq {range : BitVec 8} (h : 1 ≤ range.toNat) (prob : Nat) :
    splitOf range prob = (((range.toNat - 1) * prob / 256 : Nat) : Int) := by
  have e : (range.toNat : Int) - 1 = ((range.toNat - 1 : Nat) : Int) := by omega
  rw [splitOf, asr_eq_ediv, e]
  push_cast
  rfl

/-- `split < r` for RANGE at least 2 and prob at most 255 (40_range_decoder.md R68). -/
theorem split_lt {r prob : Nat} (hr : 1 ≤ r) (hp : prob ≤ 255) : r * prob / 256 < r := by
  have : r * prob ≤ r * 255 := Nat.mul_le_mul_left r hp
  omega

theorem topOf_eq (s : State) : topOf s = ((s.value.toNat / 2 ^ s.count.toNat : Nat) : Int) := by
  rw [topOf, asr_eq_ediv]
  push_cast
  rfl

/-- The renormalised interval is in [128, 255], and below 255 for an interval below 255
(40_range_decoder.md R79). -/
theorem renorm_range {rng : Nat} (h₁ : 1 ≤ rng) (h₂ : rng ≤ 254) :
    128 ≤ rng * 2 ^ (7 - Nat.log2 rng) ∧ rng * 2 ^ (7 - Nat.log2 rng) ≤ 254 := by
  interval_cases rng <;> decide

/-- Everything a renormalisation can do (40_range_decoder.md R69). -/
theorem renorm_eq (s : State) (b : Bool) (v : BitVec 32) {rng : Nat} (h₁ : 1 ≤ rng)
    (h₂ : rng ≤ 254) :
    renorm s b v rng = .bit b { s with
      value := v
      range := BitVec.ofNat 8 (rng * 2 ^ (7 - Nat.log2 rng))
      count := BitVec.ofInt 4 (s.count.toInt - (7 - Nat.log2 rng : Nat)) } := by
  have hx : 7 ^^^ floorLog2 rng = 7 - Nat.log2 rng := seven_xor (floorLog2_le_seven (by omega))
  have hm : shl (rng : Int) (7 - Nat.log2 rng) = ((rng * 2 ^ (7 - Nat.log2 rng) : Nat) : Int) := by
    rw [shl]
    push_cast
    rfl
  rw [renorm, if_neg (by omega)]
  simp only [Int.toNat_natCast, hx, hm, BitVec.ofInt_natCast]
  rfl

/-- Everything steps 2 and 3 of a decision can do, for RANGE in [128, 255] and COUNT at least 0
(40_range_decoder.md R68, R69). -/
theorem decideFilled_eq {s : State} {prob : Nat} (hr : 128 ≤ s.range.toNat) (hp : prob ≤ 255) :
    let split := (s.range.toNat - 1) * prob / 256
    let bit := decide (split < s.value.toNat / 2 ^ s.count.toNat)
    let rng := if bit then s.range.toNat - 1 - split else split + 1
    decideFilled prob s = .bit bit { s with
      value := if bit then BitVec.ofNat 32 (s.value.toNat - (split + 1) * 2 ^ s.count.toNat)
        else s.value
      range := BitVec.ofNat 8 (rng * 2 ^ (7 - Nat.log2 rng))
      count := BitVec.ofInt 4 (s.count.toInt - (7 - Nat.log2 rng : Nat)) } := by
  intro split bit rng
  have hlt : s.range.toNat < 256 := s.range.isLt
  have hs : split < s.range.toNat - 1 := split_lt (by omega) hp
  have hrng : 1 ≤ rng ∧ rng ≤ 254 := by
    simp only [rng]
    split <;> omega
  rw [decideFilled]
  simp only [splitOf_eq (by omega : 1 ≤ s.range.toNat), topOf_eq]
  by_cases hb : split < s.value.toNat / 2 ^ s.count.toNat
  · have e : bit = true := by simp [bit, hb]
    have hle : (split + 1) * 2 ^ s.count.toNat ≤ s.value.toNat := by
      calc (split + 1) * 2 ^ s.count.toNat
          ≤ s.value.toNat / 2 ^ s.count.toNat * 2 ^ s.count.toNat :=
            Nat.mul_le_mul_right _ hb
        _ ≤ s.value.toNat := Nat.div_mul_le_self _ _
    have er : (s.range.toNat : Int) - 1 - (split : Nat) = (rng : Nat) := by
      simp only [rng, e, if_true]
      omega
    rw [if_pos (by exact_mod_cast hb), er, renorm_eq _ _ _ hrng.1 hrng.2, e]
    simp only [if_true]
    congr 2
    rw [← BitVec.ofInt_natCast]
    congr 1
    rw [shl, Nat.cast_sub hle]
    push_cast
    rfl
  · have e : bit = false := by simp [bit, hb]
    have er : ((split : Nat) : Int) + 1 = (rng : Nat) := by
      simp [rng, e]
    rw [if_neg (by exact_mod_cast hb), er, renorm_eq _ _ _ hrng.1 hrng.2, e]
    simp only [Bool.false_eq_true, if_false]

/-- A decision that can be made without a refill is steps 2 and 3. -/
theorem decideBit_filled {s : State} (h : 0 ≤ s.count.toInt) (prob : Nat) :
    decideBit prob s = decideFilled prob s := by
  rw [decideBit, if_neg (by omega)]

/-- A decision with COUNT < 0 and no byte left in the window is starved (40_range_decoder.md
R67). -/
theorem decideBit_starved {s : State} (h : s.count.toInt < 0) (hw : s.bsLen ≤ s.bsPos)
    (prob : Nat) : decideBit prob s = .underflow := by
  rw [decideBit, if_pos h, refill_eq_none.2 hw]

/-- A decision with COUNT < 0 and a byte left refills, then decides (40_range_decoder.md R67). -/
theorem decideBit_refilled {s t : State} (h : s.count.toInt < 0) (hr : refill s = some t)
    (prob : Nat) : decideBit prob s = decideFilled prob t := by
  rw [decideBit, if_pos h, hr]

/-- What steps 2 and 3 leave alone. -/
theorem decideFilled_frame {s t : State} {prob : Nat} {b : Bool}
    (h : decideFilled prob s = .bit b t) :
    t = { s with value := t.value, range := t.range, count := t.count } := by
  have key : ∀ {c : Bool} {v : BitVec 32} {rng : Int}, renorm s c v rng = .bit b t →
      t = { s with value := t.value, range := t.range, count := t.count } := by
    intro c v rng hr
    rw [renorm] at hr
    split at hr
    · cases hr
    · cases hr
      rfl
  rw [decideFilled] at h
  split at h
  · exact key h
  · exact key h

/-- What a decision leaves alone: it writes VALUE, RANGE, COUNT and BS_POS only. -/
theorem decideBit_frame {s t : State} {prob : Nat} {b : Bool} (h : decideBit prob s = .bit b t) :
    t = { s with value := t.value, range := t.range, count := t.count, bsPos := t.bsPos } := by
  rw [decideBit] at h
  split at h
  · cases hr : refill s with
    | none => rw [hr] at h; cases h
    | some u =>
      rw [hr] at h
      obtain ⟨-, rfl⟩ := refill_eq_some.1 hr
      have := decideFilled_frame h
      rw [this]
  · have := decideFilled_frame h
    rw [this]

/-- What a run of decisions that are all made leaves alone. -/
theorem decideBits_done_frame {n v w : Nat} {s t : State} (h : decideBits n v s = .done w t) :
    t = { s with value := t.value, range := t.range, count := t.count, bsPos := t.bsPos } := by
  induction n generalizing v s with
  | zero =>
    cases h
    rfl
  | succ n ih =>
    rw [decideBits] at h
    split at h
    · rename_i hd
      rw [ih h, decideBit_frame hd]
    · cases h
    · cases h

/-- What the decisions before a starved one leave alone. -/
theorem decideBits_starved_frame {n v : Nat} {s t : State} (h : decideBits n v s = .starved t) :
    t = { s with value := t.value, range := t.range, count := t.count, bsPos := t.bsPos } := by
  induction n generalizing v s with
  | zero => cases h
  | succ n ih =>
    rw [decideBits] at h
    split at h
    · rename_i hd
      rw [ih h, decideBit_frame hd]
    · cases h
      rfl
    · cases h

/-- Everything a deciding command can do after its checks. -/
theorem deciding_next {i : Instr} {prob : Nat} {result : Bool → Word} {s t : State}
    (h : deciding i prob result s = .next t) :
    (∃ b u, decideBit prob s = .bit b u ∧ t = u.withResult (result b)) ∨
    (decideBit prob s = .underflow ∧ t = s.raise .coderUnderflow (encode i)) := by
  rw [deciding] at h
  split at h
  · cases h
    exact .inl ⟨_, _, ‹_›, rfl⟩
  · cases h
    exact .inr ⟨‹_›, rfl⟩
  · cases h

end Sys2Proof.Machine
end

