-- ==== Sys2Proof/Laws/Exec.lean ====
section
/-!
SUPPORT. What every command shares: the discard while a fault is recorded.
-/

namespace Sys2Proof.Machine

/-- With a fault recorded every command but SOFT_RESET is discarded (60_exceptions.md R131). -/
theorem exec_faulted {i : Instr} {s : State} (hf : s.fault ≠ 0#8) (hi : i ≠ .softReset) :
    exec i s = .next s := by
  cases i
  case softReset => exact absurd rfl hi
  all_goals
    simp only [exec, execNop, execRdInit, execRdDecide, execRdDecideEq, execRdBits, execRdSigned,
      execRdSave, execRdRestore, execItDct, execItDst4, execItSkip, execItBypass, execIpSubst,
      execIpFilter, execIpPlanar, execIpDc, execIpAng, execIpRecon, checked_faulted hf]

end Sys2Proof.Machine
end

