-- ==== Sys2Proof/Laws/HostPort.lean ====
section
/-!
SUPPORT. What a move of the environment can do: the register map by index, the words a host reads,
what a host write changes, and the step by the move at the head of the queue.
-/

namespace Sys2Proof.Machine

/-! ### The register map -/

theorem regAt_low {index : RegIndex} (h : index.toNat < 0x400) :
    regAt index = lowRegs.getD index.toNat .reserved := by
  unfold regAt; simp only [h, if_true]

theorem regAt_unassigned {index : RegIndex} (h₁ : 0x00E ≤ index.toNat) (h₂ : index.toNat ≤ 0x3FF) :
    regAt index = .reserved := by
  rw [regAt_low (by omega), List.getD_eq_default _ _ (by simp only [lowRegs, List.length]; omega)]

theorem regAt_d {index : RegIndex} {k : Nat} (hk : k < 1024) (h : index.toNat = 0x400 + k) :
    regAt index = .d k := by
  simp only [regAt, h]; split_ifs <;> first | omega | exact congrArg Reg.d (by omega)

theorem regAt_res {index : RegIndex} {k : Nat} (hk : k < 1024) (h : index.toNat = 0x800 + k) :
    regAt index = .res k := by
  simp only [regAt, h]; split_ifs <;> first | omega | exact congrArg Reg.res (by omega)

theorem regAt_pred {index : RegIndex} {k : Nat} (hk : k < 1024) (h : index.toNat = 0xC00 + k) :
    regAt index = .pred k := by
  simp only [regAt, h]; split_ifs <;> first | omega | exact congrArg Reg.pred (by omega)

theorem regAt_out {index : RegIndex} {k : Nat} (hk : k < 1024) (h : index.toNat = 0x1000 + k) :
    regAt index = .out k := by
  simp only [regAt, h]; split_ifs <;> first | omega | exact congrArg Reg.out (by omega)

theorem regAt_ref {index : RegIndex} {k : Nat} (hk : k < 129) (h : index.toNat = 0x1400 + k) :
    regAt index = .ref k := by
  simp only [regAt, h]; split_ifs <;> first | omega | exact congrArg Reg.ref (by omega)

theorem regAt_beyond {index : RegIndex} (h : 0x1481 ≤ index.toNat) : regAt index = .reserved := by
  simp only [regAt]; split_ifs <;> first | omega | rfl

/-- Index 0 is CMD, and no other index is. -/
theorem regAt_eq_cmd {index : RegIndex} : regAt index = .cmd ↔ index = 0#13 := by
  constructor
  · intro h
    by_cases hl : index.toNat < 0x00E
    · rw [regAt_low (by omega)] at h
      have : index.toNat = 0 := by
        generalize index.toNat = i at h hl
        interval_cases i <;> simp_all [lowRegs]
      exact BitVec.eq_of_toNat_eq this
    · simp only [regAt] at h
      split_ifs at h
      rw [List.getD_eq_default _ _ (by simp only [lowRegs, List.length]; omega)] at h
      cases h
  · rintro rfl; rfl

/-! ### The words a host reads -/

theorem statusWord_toNat (s : State) :
    (statusWord s).toNat = s.fault.toNat + 256 * s.rdValid.toNat + 512 * s.ipFilt.toNat := by
  have : statusWord s = (s.ipFilt ++ BitVec.ofBool s.rdValid ++ s.fault).setWidth 32 := by
    unfold statusWord field
    ext i hi
    simp only [BitVec.getElem_or, BitVec.getElem_shiftLeft, BitVec.getElem_setWidth,
      BitVec.getLsbD_append]
    interval_cases i <;> simp
  rw [this, BitVec.toNat_setWidth, BitVec.toNat_append, BitVec.toNat_append,
    ← Nat.shiftLeft_add_eq_or_of_lt s.fault.isLt, Nat.shiftLeft_eq,
    ← Nat.shiftLeft_add_eq_or_of_lt (BitVec.isLt _), Nat.shiftLeft_eq, BitVec.toNat_ofBool]
  have := s.fault.isLt
  have := s.ipFilt.isLt
  have : s.rdValid.toNat ≤ 1 := Bool.toNat_le s.rdValid
  omega

theorem cfgWord_toNat (s : State) :
    (cfgWord s).toNat = s.bdY.toNat + 16 * s.bdC.toNat + 256 * s.strong.toNat := by
  have : cfgWord s = (BitVec.ofBool s.strong ++ s.bdC ++ s.bdY).setWidth 32 := by
    unfold cfgWord field
    ext i hi
    simp only [BitVec.getElem_or, BitVec.getElem_shiftLeft, BitVec.getElem_setWidth,
      BitVec.getLsbD_append]
    interval_cases i <;> simp
  rw [this, BitVec.toNat_setWidth, BitVec.toNat_append, BitVec.toNat_append,
    ← Nat.shiftLeft_add_eq_or_of_lt s.bdY.isLt, Nat.shiftLeft_eq,
    ← Nat.shiftLeft_add_eq_or_of_lt s.bdC.isLt, Nat.shiftLeft_eq, BitVec.toNat_ofBool]
  have := s.bdY.isLt
  have := s.bdC.isLt
  have : s.strong.toNat ≤ 1 := Bool.toNat_le s.strong
  omega

theorem refWord_toNat (e : RefEntry) : (refWord e).toNat = e.val.toNat + 65536 * e.avail.toNat := by
  have : refWord e = (BitVec.ofBool e.avail ++ e.val).setWidth 32 := by
    unfold refWord field
    ext i hi
    simp only [BitVec.getElem_or, BitVec.getElem_shiftLeft, BitVec.getElem_setWidth,
      BitVec.getLsbD_append]
    interval_cases i <;> simp
  rw [this, BitVec.toNat_setWidth, BitVec.toNat_append,
    ← Nat.shiftLeft_add_eq_or_of_lt e.val.isLt, Nat.shiftLeft_eq, BitVec.toNat_ofBool]
  have := e.val.isLt
  have : e.avail.toNat ≤ 1 := Bool.toNat_le e.avail
  omega

/-- CFG stores no bit depth below 8 (10_state.md R19). -/
theorem storedDepth_toNat (d : BitVec 4) : (storedDepth d).toNat = max 8 d.toNat := by
  revert d; decide

/-! ### Host writes -/

theorem hostWrite_cmd (s : State) (w : Word) : hostWrite s 0#13 w = writeCommand s w := rfl

/-- A write to an index other than CMD's always completes (20_memory.md R42). -/
theorem hostWrite_other {s : State} {index : RegIndex} (h : index ≠ 0#13) (data : Word) :
    hostWrite s index data = .next (writeReg s data (regAt index)) := by
  have hr : regAt index ≠ .cmd := fun hc => h (regAt_eq_cmd.1 hc)
  unfold hostWrite
  cases hx : regAt index <;> first | rfl | exact absurd hx hr

/-- What no register write changes. -/
theorem writeReg_frame (s : State) (data : Word) (r : Reg) :
    (writeReg s data r).value = s.value ∧ (writeReg s data r).range = s.range ∧
    (writeReg s data r).count = s.count ∧ (writeReg s data r).result = s.result ∧
    (writeReg s data r).fault = s.fault ∧ (writeReg s data r).faultInfo = s.faultInfo ∧
    (writeReg s data r).rdValid = s.rdValid ∧ (writeReg s data r).ipFilt = s.ipFilt ∧
    (writeReg s data r).out = s.out ∧ (writeReg s data r).mem = s.mem ∧
    (writeReg s data r).bus = s.bus ∧ (writeReg s data r).hostData = s.hostData ∧
    (writeReg s data r).resets = s.resets := by
  cases r <;> exact ⟨rfl, rfl, rfl, rfl, rfl, rfl, rfl, rfl, rfl, rfl, rfl, rfl, rfl⟩

/-- A register write does not look at the fault record (60_exceptions.md R131). -/
theorem writeReg_withFault (s : State) (code : BitVec 8) (info data : Word) (r : Reg) :
    writeReg (s.withFault code info) data r = (writeReg s data r).withFault code info := by
  cases r <;> rfl

/-- A legal word runs its command. -/
theorem writeCommand_legal {s : State} {w : Word} {i : Instr} (h : decode w = .ok i) :
    writeCommand s w = exec i s := by
  simp only [writeCommand, h]

/-- An illegal word raises IllegalCommand, or is discarded while a fault is recorded. -/
theorem writeCommand_illegal {s : State} {w : Word} {e : DecodeError} (h : decode w = .error e) :
    writeCommand s w = if s.faulted then .next s else .next (s.raise .illegalCommand w) := by
  simp only [writeCommand, h]

/-! ### The step -/

theorem step_idle {s : State} (h : s.bus = []) : step s = .next s := by
  simp only [step, h]

theorem step_event {s : State} {e : BusEvent} {rest : List BusEvent} (h : s.bus = e :: rest) :
    step s = busEvent (s.withBus rest) e := by
  simp only [step, h]

end Sys2Proof.Machine
end

