-- ==== Sys2Proof/Laws/Memory.lean ====
section
/-!
SUPPORT. The laws of the bitstream memory: read after write, and every operation keeps the
canonical form.
-/

namespace Sys2Proof.Machine

theorem memWfFrom_mono {lo lo' : Nat} (h : lo' ≤ lo) {m : List Host.Cell}
    (hm : memWfFrom lo m = true) : memWfFrom lo' m = true := by
  cases m with
  | nil => rfl
  | cons c m =>
    simp only [memWfFrom, Bool.and_eq_true, decide_eq_true_eq] at hm ⊢
    exact ⟨⟨⟨by omega, hm.1.1.2⟩, hm.1.2⟩, hm.2⟩

/-- An address below the list's first is unlisted. -/
theorem memGet_below {lo a : Nat} (h : a < lo) {m : List Host.Cell}
    (hm : memWfFrom lo m = true) : memGet m a = unlistedByte := by
  induction m generalizing lo with
  | nil => rfl
  | cons c m ih =>
    simp only [memWfFrom, Bool.and_eq_true, decide_eq_true_eq] at hm
    rw [memGet, if_neg (by omega)]
    exact ih (by omega) hm.2

theorem memWfFrom_memErase {lo : Nat} {m : List Host.Cell} (a : Nat)
    (hm : memWfFrom lo m = true) : memWfFrom lo (memErase m a) = true := by
  induction m generalizing lo with
  | nil => rfl
  | cons c m ih =>
    simp only [memWfFrom, Bool.and_eq_true, decide_eq_true_eq] at hm
    rw [memErase]
    split
    · exact memWfFrom_mono (by omega) hm.2
    · simp only [memWfFrom, Bool.and_eq_true, decide_eq_true_eq]
      exact ⟨hm.1, ih hm.2⟩

theorem memWfFrom_memInsert {lo a : Nat} {b : Byte} {m : List Host.Cell} (hlo : lo ≤ a)
    (ha : a < 2 ^ 32) (hb : b ≠ unlistedByte) (hm : memWfFrom lo m = true) :
    memWfFrom lo (memInsert m a b) = true := by
  induction m generalizing lo with
  | nil => simp [memInsert, memWfFrom, hlo, hb]; omega
  | cons c m ih =>
    simp only [memWfFrom, Bool.and_eq_true, decide_eq_true_eq, bne_iff_ne, ne_eq] at hm
    rw [memInsert]
    split
    · simp only [memWfFrom, Bool.and_eq_true, decide_eq_true_eq, bne_iff_ne, ne_eq]
      exact ⟨⟨⟨hlo, ha⟩, hb⟩, ⟨⟨⟨by omega, hm.1.1.2⟩, hm.1.2⟩, hm.2⟩⟩
    · split
      · rename_i h
        simp only [memWfFrom, Bool.and_eq_true, decide_eq_true_eq, bne_iff_ne, ne_eq]
        exact ⟨⟨⟨hlo, ha⟩, hb⟩, h ▸ hm.2⟩
      · simp only [memWfFrom, Bool.and_eq_true, decide_eq_true_eq, bne_iff_ne, ne_eq]
        exact ⟨hm.1, ih (by omega) hm.2⟩

/-- A write keeps the canonical form. -/
theorem Memory.wf_memPut {m : List Host.Cell} {a : Nat} (b : Byte) (ha : a < 2 ^ 32)
    (hm : Memory.wf m = true) : Memory.wf (memPut m a b) = true := by
  unfold memPut
  split
  · exact memWfFrom_memErase a hm
  · exact memWfFrom_memInsert (Nat.zero_le a) ha ‹_› hm

/-- Another master's write keeps the canonical form. -/
theorem Memory.wf_withMemByte (s : State) (a : BitVec 32) (b : Byte)
    (hm : Memory.wf s.mem = true) : Memory.wf (s.withMemByte a b).mem = true :=
  Memory.wf_memPut b a.isLt hm

/-- The reset state's memory has the canonical form. -/
theorem Memory.wf_reset : Memory.wf State.reset.mem = true := rfl

theorem memGet_memErase_same {lo a : Nat} {m : List Host.Cell} (hm : memWfFrom lo m = true) :
    memGet (memErase m a) a = unlistedByte := by
  induction m generalizing lo with
  | nil => rfl
  | cons c m ih =>
    simp only [memWfFrom, Bool.and_eq_true, decide_eq_true_eq] at hm
    rw [memErase]
    split
    · exact memGet_below (by omega) hm.2
    · rw [memGet, if_neg ‹_›]
      exact ih hm.2

theorem memGet_memErase_other {a a' : Nat} (h : a' ≠ a) (m : List Host.Cell) :
    memGet (memErase m a) a' = memGet m a' := by
  induction m with
  | nil => rfl
  | cons c m ih =>
    rw [memErase]
    split
    · rw [memGet, if_neg (by omega)]
    · rw [memGet, memGet, ih]

theorem memGet_memInsert_same (a : Nat) (b : Byte) (m : List Host.Cell) :
    memGet (memInsert m a b) a = b := by
  induction m with
  | nil => simp [memInsert, memGet]
  | cons c m ih =>
    rw [memInsert]
    split
    · simp [memGet]
    · split
      · simp [memGet]
      · rw [memGet, if_neg ‹_›]
        exact ih

theorem memGet_memInsert_other {a a' : Nat} (h : a' ≠ a) (b : Byte) (m : List Host.Cell) :
    memGet (memInsert m a b) a' = memGet m a' := by
  induction m with
  | nil => simp [memInsert, memGet, Ne.symm h]
  | cons c m ih =>
    rw [memInsert]
    split
    · rw [memGet, if_neg (Ne.symm h)]
    · split
      · rename_i hc
        rw [memGet, memGet, if_neg (Ne.symm h), if_neg (by omega)]
      · rw [memGet, memGet, ih]

/-- A read after a write to the same address gives the byte written. -/
theorem memGet_memPut_same {m : List Host.Cell} (a : Nat) (b : Byte)
    (hm : Memory.wf m = true) : memGet (memPut m a b) a = b := by
  unfold memPut
  split
  · rename_i h
    rw [h]
    exact memGet_memErase_same hm
  · exact memGet_memInsert_same a b m

/-- A write leaves every other address alone. -/
theorem memGet_memPut_other {a a' : Nat} (h : a' ≠ a) (b : Byte) (m : List Host.Cell) :
    memGet (memPut m a b) a' = memGet m a' := by
  unfold memPut
  split
  · exact memGet_memErase_other h m
  · exact memGet_memInsert_other h b m

end Sys2Proof.Machine
end

