-- ==== Sys2Proof/Laws/PerInstr.lean ====
section
/-!
SUPPORT. What is proved of every command, one lemma per constructor: its word matches its row of
the opcode map (30_encoding.md R56: a word `w` selects a row when `w & mask = match`).
-/

namespace Sys2Proof.Laws.TableRow

/-- The `mask` of a command's row (30_encoding.md R56). -/
def mask : Instr → Word
  | .nop => 0xFFFFFFFF#32
  | .rdInit => 0xFFFFFFFF#32
  | .rdDecide _ => 0xFFFFFF00#32
  | .rdDecideEq => 0xFFFFFFFF#32
  | .rdBits _ => 0xFFFFFFC0#32
  | .rdSigned _ => 0xFFFF0000#32
  | .rdSave => 0xFFFFFFFF#32
  | .rdRestore => 0xFFFFFFFF#32
  | .itDct _ _ => 0xFFFFFFF0#32
  | .itDst4 _ => 0xFFFFFFF7#32
  | .itSkip _ _ _ => 0xFFFFFFE0#32
  | .itBypass _ _ _ => 0xFFFFFFE0#32
  | .ipSubst _ _ => 0xFFFFFFF0#32
  | .ipFilter _ _ _ => 0xFFFFF810#32
  | .ipPlanar _ _ => 0xFFFFFFF0#32
  | .ipDc _ _ _ => 0xFFFFFFE0#32
  | .ipAng _ _ _ _ => 0xFFFFF800#32
  | .ipRecon _ _ => 0xFFFFFFF0#32
  | .softReset => 0xFFFFFFFF#32

/-- The `match` of a command's row (30_encoding.md R56). -/
def pattern : Instr → Word
  | .nop => 0x00000000#32
  | .rdInit => 0x01000000#32
  | .rdDecide _ => 0x02000000#32
  | .rdDecideEq => 0x03000000#32
  | .rdBits _ => 0x04000000#32
  | .rdSigned _ => 0x05000000#32
  | .rdSave => 0x06000000#32
  | .rdRestore => 0x07000000#32
  | .itDct _ _ => 0x10000000#32
  | .itDst4 _ => 0x11000002#32
  | .itSkip _ _ _ => 0x12000000#32
  | .itBypass _ _ _ => 0x13000000#32
  | .ipSubst _ _ => 0x20000000#32
  | .ipFilter _ _ _ => 0x21000000#32
  | .ipPlanar _ _ => 0x22000000#32
  | .ipDc _ _ _ => 0x23000020#32
  | .ipAng _ _ _ _ => 0x24000000#32
  | .ipRecon _ _ => 0x25000000#32
  | .softReset => 0x7F000000#32

/-- The command's word selects the command's row. -/
def Statement (i : Instr) : Prop := encode i &&& mask i = pattern i

theorem nop : Statement .nop := rfl

theorem rdInit : Statement .rdInit := rfl

theorem rdDecide (prob : BitVec 8) : Statement (.rdDecide prob) := by
  revert prob
  unfold Statement
  decide

theorem rdDecideEq : Statement .rdDecideEq := rfl

theorem rdBits (n : BitVec 6) : Statement (.rdBits n) := by
  revert n
  unfold Statement
  decide

theorem rdSigned (v : BitVec 16) : Statement (.rdSigned v) := by
  unfold Statement encode wordS mask pattern
  ext k hk
  interval_cases k <;> simp [field]

theorem rdSave : Statement .rdSave := rfl

theorem rdRestore : Statement .rdRestore := rfl

theorem itDct (size : BlockSize) (c : Component) : Statement (.itDct size c) := by
  cases size <;> cases c <;> rfl

theorem itDst4 (c : Component) : Statement (.itDst4 c) := by
  cases c <;> rfl

theorem itSkip (size : BlockSize) (c : Component) (rot : Bool) : Statement (.itSkip size c rot) := by
  cases size <;> cases c <;>
  (revert rot; unfold Statement; decide)

theorem itBypass (size : BlockSize) (c : Component) (rot : Bool) : Statement (.itBypass size c rot) := by
  cases size <;> cases c <;>
  (revert rot; unfold Statement; decide)

theorem ipSubst (size : BlockSize) (c : Component) : Statement (.ipSubst size c) := by
  cases size <;> cases c <;> rfl

theorem ipFilter (size : BlockSize) (c : Component) (mode : BitVec 6) : Statement (.ipFilter size c mode) := by
  cases size <;> cases c <;>
  (revert mode; unfold Statement; decide)

theorem ipPlanar (size : BlockSize) (c : Component) : Statement (.ipPlanar size c) := by
  cases size <;> cases c <;> rfl

theorem ipDc (size : BlockSize) (c : Component) (nf : Bool) : Statement (.ipDc size c nf) := by
  cases size <;> cases c <;>
  (revert nf; unfold Statement; decide)

theorem ipAng (size : BlockSize) (c : Component) (nf : Bool) (mode : BitVec 6) : Statement (.ipAng size c nf mode) := by
  cases size <;> cases c <;>
  (revert nf mode; unfold Statement; decide)

theorem ipRecon (size : BlockSize) (c : Component) : Statement (.ipRecon size c) := by
  cases size <;> cases c <;> rfl

theorem softReset : Statement .softReset := rfl

end Sys2Proof.Laws.TableRow
end

