-- ==== Sys2Proof/Laws/Units.lean ====
section
/-!
SUPPORT. What the shared operations of the IT and IP units store, entry by entry.
-/

namespace Sys2Proof.Machine

/-! ### The inverse transform -/

theorem clipCoeff_mem (v : Int) : -32768 ≤ clipCoeff v ∧ clipCoeff v ≤ 32767 :=
  clip3_mem (by decide) v

/-- A clipped value is stored as it is. -/
theorem toInt_entryOf_clipCoeff (v : Int) : (entryOf (clipCoeff v)).toInt = clipCoeff v :=
  toInt_entryOf (clipCoeff_mem v).1 (clipCoeff_mem v).2

/-- Pass 1, entry by entry (41_inverse_transform.md R88). -/
theorem columnPass_at (n : Nat) (m : Nat → Nat → Int) (d : Block) {x y : Nat} (hx : x < n)
    (hy : y < n) :
    gridAt (columnPass n m d) x y =
      clipCoeff (roundShift (sumTo n fun j => m j y * d.signed x j) shift1) :=
  gridAt_gridOf n _ hx hy

/-- Sums of equal terms are equal. -/
theorem sumTo_congr {n : Nat} {f g : Nat → Int} (h : ∀ j < n, f j = g j) : sumTo n f = sumTo n g := by
  rw [sumTo_eq_sum, sumTo_eq_sum]
  exact Finset.sum_congr rfl fun j hj => h j (Finset.mem_range.1 hj)

/-- Both passes, entry by entry (41_inverse_transform.md R88). -/
theorem inverseTransform_at {n : Nat} (m : Nat → Nat → Int) (depth : Nat) (d res : Block)
    {x y : Nat} (hx : x < 32) (hy : y < 32) :
    (inverseTransform n m depth d res).signed x y =
      if x < n ∧ y < n then rowPass n m depth (columnPass n m d) x y else res.signed x y := by
  unfold Block.signed inverseTransform
  rw [Block.at_corner _ _ _ hx hy]
  split_ifs
  · exact toInt_entryOf_clipCoeff _
  · rfl

/-! ### Reference lines -/

/-- The three-tap filter, entry by entry (42_intra_prediction.md R103). -/
theorem threeTap_get (n : Nat) (r : RefLine) {i : Nat} (h : i < 129) :
    (threeTap n r).get i =
      if 1 ≤ i ∧ i < 4 * n then
        ⟨(r.get i).avail,
          entryOf ((r.sample (i - 1) + 2 * r.sample i + r.sample (i + 1) + 2) / 4)⟩
      else r.get i := by
  rw [threeTap, RefLine.get_mapVal _ _ _ h]
  simp [asr]

/-- The strong filter, entry by entry (42_intra_prediction.md R104). -/
theorem strongFilter_get (r : RefLine) {i : Nat} (h : i < 129) :
    (strongFilter r).get i =
      if 1 ≤ i ∧ i < 128 ∧ i ≠ 64 then
        ⟨(r.get i).avail, entryOf
          (if i < 64 then strongSample (r.left 32 (-1)) (r.left 32 63) (63 - i)
           else strongSample (r.top 32 (-1)) (r.top 32 63) ((i : Int) - 65))⟩
      else r.get i := by
  rw [strongFilter, RefLine.get_mapVal _ _ _ h]
  simp [and_assoc]

/-- The scan makes every sample available and keeps the number of them. -/
theorem substScan_length (prev : Entry) (l : List RefEntry) : (substScan prev l).length = l.length := by
  induction l generalizing prev with
  | nil => rfl
  | cons e es ih => simp [substScan, ih]

theorem substScan_avail (prev : Entry) (l : List RefEntry) : ∀ e ∈ substScan prev l, e.avail = true := by
  induction l generalizing prev with
  | nil => simp [substScan]
  | cons e es ih =>
    intro a ha
    rcases List.mem_cons.1 ha with rfl | ha
    · rfl
    · exact ih _ _ ha

theorem substituted_length (gray : Entry) (l : List RefEntry) :
    (substituted gray l).length = l.length := by
  unfold substituted
  split
  · simp
  · exact substScan_length _ _

/-- REF after IP_SUBST, entry by entry (42_intra_prediction.md R100). -/
theorem substLine_get (n depth : Nat) (r : RefLine) {i : Nat} (h : i < 129) :
    (substLine n depth r).get i =
      if i < 4 * n + 1 then
        (substituted (entryOf (midGray depth)) (r.cells.take (4 * n + 1))).getD i default
      else r.get i := by
  simp only [substLine, Buffer.get_tabulate _ h]

/-! ### Reconstruction -/

theorem sampleMax_nonneg (depth : Nat) : 0 ≤ sampleMax depth := by
  rw [sampleMax_eq]
  have : (1 : Int) ≤ 2 ^ depth := one_le_pow₀ (by norm_num)
  omega

theorem reconValue_mem (depth : Nat) (pred res : Int) :
    0 ≤ reconValue depth pred res ∧ reconValue depth pred res ≤ sampleMax depth :=
  clip3_mem (sampleMax_nonneg depth) _

end Sys2Proof.Machine
end

