-- ==== Sys2Proof/Tests/Slice0.lean ====
section
/-!
SUPPORT. The model's own tests: the smoke test of the field limits, the words of
95_test_vectors.md section 2.1 written out, one-step vectors of its sections 2 and 3, and for
every statement with hypotheses a concrete case that meets them.
-/

open Sys2Proof Sys2Proof.Machine

namespace Sys2Proof.Tests

/-! ## Helpers -/

/-- The reset state with every buffer entry 0, bit depths 8. -/
def blank : State :=
  { State.reset with
    d := .tabulate 1024 fun _ => 0#16
    res := .tabulate 1024 fun _ => 0#16
    pred := .tabulate 1024 fun _ => 0#16
    out := .tabulate 1024 fun _ => 0#16
    ref := .tabulate 129 fun _ => ⟨false, 0#16⟩ }

/-- The four bytes of window A at 0x1000 (95_test_vectors.md section 2.2). -/
def bytesA : List Host.Cell := [(0x1000, 0x57#8), (0x1001, 0x83#8), (0x1002, 0x71#8), (0x1003, 0xA9#8)]

/-- Window A described, the decoder (VALUE, RANGE, COUNT, BS_POS) running on it. -/
def onA (value : BitVec 32) (range : BitVec 8) (count : BitVec 4) (pos : BitVec 32) : State :=
  { blank with
    mem := bytesA, bsBase := 0x1000#32, bsLen := 4#32, bsPos := pos, rdValid := true
    value := value, range := range, count := count }

/-- A block whose corner rows are listed, y = 0 first, and 0 elsewhere. -/
def rows (l : List (List Int)) : Block :=
  .tabulate 1024 fun i => entryOf ((l.getD (i / 32) []).getD (i % 32) 0)

/-- The n by n corner, y = 0 first, entries signed. -/
def corner (n : Nat) (b : Block) : List (List Int) :=
  (List.range n).map fun y => (List.range n).map fun x => b.signed x y

/-- A reference line with all of REF[0..] listed available, 0 and unavailable elsewhere. -/
def line (l : List Nat) : RefLine :=
  .tabulate 129 fun i => ⟨decide (i < l.length), BitVec.ofNat 16 (l.getD i 0)⟩

/-- The first `k` values of a reference line. -/
def vals (k : Nat) (r : RefLine) : List Nat := (List.range k).map fun i => (r.get i).val.toNat

/-- Reference set E4 (95_test_vectors.md section 2.5). -/
def e4 : State :=
  { blank with ref := line [82, 78, 74, 70, 66, 64, 62, 60, 50, 100, 104, 108, 112, 120, 128, 136,
      144] }

/-- The next state of an outcome; `blank` with a fault code no command sets for a stop. -/
def after : StepOutcome → State
  | .next t => t
  | .fault _ => { blank with fault := 0xFF#8 }
  | .refused _ => { blank with fault := 0xFF#8 }

/-- (VALUE, RANGE, COUNT, BS_POS). -/
def rd (s : State) : Nat × Nat × Int × Nat :=
  (s.value.toNat, s.range.toNat, s.count.toInt, s.bsPos.toNat)

/-- The state with one pending move. -/
def State.having (s : State) (e : BusEvent) : State := s.withBus [e]

/-! ## The field limits: an ill-formed term for each check of WellFormed.lean -/

theorem test_wf_rdBits : (Instr.rdBits 33#6).wf = false ∧ (Instr.rdBits 32#6).wf = true := by decide
theorem test_wf_itSkip : (Instr.itSkip .n8 .luma true).wf = false ∧
    (Instr.itSkip .n4 .luma true).wf = true := by decide
theorem test_wf_itBypass : (Instr.itBypass .n32 .chroma true).wf = false ∧
    (Instr.itBypass .n32 .chroma false).wf = true := by decide
theorem test_wf_ipFilter : (Instr.ipFilter .n8 .luma 35#6).wf = false ∧
    (Instr.ipFilter .n8 .luma 34#6).wf = true := by decide
theorem test_wf_ipAng_low : (Instr.ipAng .n4 .luma false 1#6).wf = false ∧
    (Instr.ipAng .n4 .luma false 2#6).wf = true := by decide
theorem test_wf_ipAng_high : (Instr.ipAng .n4 .luma false 35#6).wf = false ∧
    (Instr.ipAng .n4 .luma false 34#6).wf = true := by decide

/-! ## Decoding: every constructor on a word of 95_test_vectors.md section 2.1 -/

theorem test_decode_nop : decode 0x00000000#32 = .ok (.nop) := by decide
theorem test_encode_nop : encode (.nop) = 0x00000000#32 := by decide
theorem test_decode_rdInit : decode 0x01000000#32 = .ok (.rdInit) := by decide
theorem test_encode_rdInit : encode (.rdInit) = 0x01000000#32 := by decide
theorem test_decode_rdDecide : decode 0x020000C8#32 = .ok (.rdDecide 200#8) := by decide
theorem test_encode_rdDecide : encode (.rdDecide 200#8) = 0x020000C8#32 := by decide
theorem test_decode_rdDecideEq : decode 0x03000000#32 = .ok (.rdDecideEq) := by decide
theorem test_encode_rdDecideEq : encode (.rdDecideEq) = 0x03000000#32 := by decide
theorem test_decode_rdBits : decode 0x04000020#32 = .ok (.rdBits 32#6) := by decide
theorem test_encode_rdBits : encode (.rdBits 32#6) = 0x04000020#32 := by decide
theorem test_decode_rdSigned : decode 0x0500FFF9#32 = .ok (.rdSigned (-7#16)) := by decide
theorem test_encode_rdSigned : encode (.rdSigned (-7#16)) = 0x0500FFF9#32 := by decide
theorem test_decode_rdSave : decode 0x06000000#32 = .ok (.rdSave) := by decide
theorem test_encode_rdSave : encode (.rdSave) = 0x06000000#32 := by decide
theorem test_decode_rdRestore : decode 0x07000000#32 = .ok (.rdRestore) := by decide
theorem test_encode_rdRestore : encode (.rdRestore) = 0x07000000#32 := by decide
theorem test_decode_itDct : decode 0x1000000D#32 = .ok (.itDct .n32 .chroma) := by decide
theorem test_encode_itDct : encode (.itDct .n32 .chroma) = 0x1000000D#32 := by decide
theorem test_decode_itDst4 : decode 0x1100000A#32 = .ok (.itDst4 .chroma) := by decide
theorem test_encode_itDst4 : encode (.itDst4 .chroma) = 0x1100000A#32 := by decide
theorem test_decode_itSkip : decode 0x12000012#32 = .ok (.itSkip .n4 .luma true) := by decide
theorem test_encode_itSkip : encode (.itSkip .n4 .luma true) = 0x12000012#32 := by decide
theorem test_decode_itBypass : decode 0x1300001A#32 = .ok (.itBypass .n4 .chroma true) := by decide
theorem test_encode_itBypass : encode (.itBypass .n4 .chroma true) = 0x1300001A#32 := by decide
theorem test_decode_ipSubst : decode 0x20000002#32 = .ok (.ipSubst .n4 .luma) := by decide
theorem test_encode_ipSubst : encode (.ipSubst .n4 .luma) = 0x20000002#32 := by decide
theorem test_decode_ipFilter : decode 0x21000442#32 = .ok (.ipFilter .n4 .luma 34#6) := by decide
theorem test_encode_ipFilter : encode (.ipFilter .n4 .luma 34#6) = 0x21000442#32 := by decide
theorem test_decode_ipPlanar : decode 0x22000004#32 = .ok (.ipPlanar .n16 .luma) := by decide
theorem test_encode_ipPlanar : encode (.ipPlanar .n16 .luma) = 0x22000004#32 := by decide
theorem test_decode_ipDc : decode 0x23000032#32 = .ok (.ipDc .n4 .luma true) := by decide
theorem test_encode_ipDc : encode (.ipDc .n4 .luma true) = 0x23000032#32 := by decide
theorem test_decode_ipAng : decode 0x24000353#32 = .ok (.ipAng .n8 .luma true 26#6) := by decide
theorem test_encode_ipAng : encode (.ipAng .n8 .luma true 26#6) = 0x24000353#32 := by decide
theorem test_decode_ipRecon : decode 0x2500000D#32 = .ok (.ipRecon .n32 .chroma) := by decide
theorem test_encode_ipRecon : encode (.ipRecon .n32 .chroma) = 0x2500000D#32 := by decide
theorem test_decode_softReset : decode 0x7F000000#32 = .ok (.softReset) := by decide
theorem test_encode_softReset : encode (.softReset) = 0x7F000000#32 := by decide

/-- The illegal words of 95_test_vectors.md section 2.1, by reason. -/
theorem test_decode_reserved : [0x00000001#32, 0x7F000001#32, 0x02000100#32, 0x04000040#32,
    0x05010000#32, 0x2100080A#32].all (fun w => decode w == .error .reservedBit) = true := by
  decide
theorem test_decode_unassigned : [0x08000000#32, 0x09000000#32, 0x0A000000#32, 0x0E000000#32,
    0x14000002#32, 0x26000002#32, 0x80000000#32, 0xFFFFFFFF#32].all
      (fun w => decode w == .error .unassignedOpcode) = true := by decide
theorem test_decode_limits : [0x04000021#32, 0x10000001#32, 0x10000006#32, 0x10000012#32,
    0x11000003#32, 0x12000013#32, 0x13000015#32, 0x20000022#32, 0x22000012#32, 0x21000462#32,
    0x23000002#32, 0x24000022#32, 0x24000462#32].all
      (fun w => decode w == .error .fieldLimit) = true := by decide
theorem test_decodeTableWord : decodeTableWord 32 0x24000353 = some (.ipAng .n8 .luma true 26#6) ∧
    decodeTableWord 32 0x08000000 = none := by decide
theorem test_withFetchWord : (after (step (State.reset.withFetchWord 32 0x02000100))).fault = 2#8 ∧
    (after (step (State.reset.withFetchWord 32 0x03000000))).faultInfo = 0x03000000#32 := by decide

/-! ## One step: vectors of 95_test_vectors.md -/

/-- Section 2.6: NOP is discarded while a fault is recorded. -/
theorem test_nop : (after (exec .nop { blank with fault := 1#8, result := 5#32 })).fault = 1#8 := by
  decide
/-- Section 2.2.1, RD_INIT on window A. -/
theorem test_rdInit : rd (after (exec .rdInit (onA 0#32 255#8 (-8#4) 0#32))) = (87, 255, 0, 1) := by
  decide
/-- Section 2.2.1, RD_DECIDE 200, a shift into COUNT = -1. -/
theorem test_rdDecide : rd (after (exec (.rdDecide 200#8) (onA 87#32 128#8 0#4 1#32))) =
    (87, 200, -1, 1) := by decide
/-- Section 2.2.1, RD_DECIDE 30, a refill and a 1. -/
theorem test_rdDecide_refill : rd (after (exec (.rdDecide 30#8) (onA 87#32 200#8 (-1#4) 1#32))) =
    (19331, 176, 7, 2) := by decide
/-- Section 2.2.2, RD_DECIDE_EQ with a refill. -/
theorem test_rdDecideEq : rd (after (exec .rdDecideEq (onA 3#32 128#8 (-1#4) 2#32))) =
    (881, 128, 6, 3) := by decide
/-- Section 2.2.2, RD_BITS 5. -/
theorem test_rdBits : (rd (after (exec (.rdBits 5#6) (onA 87#32 255#8 0#4 1#32))),
    (after (exec (.rdBits 5#6) (onA 87#32 255#8 0#4 1#32))).result) =
      ((1923, 128, 4, 2), 0x0000000A#32) := by decide
/-- Section 2.2.3, RD_BITS 32 starved at the 27th decision. -/
theorem test_rdBits_starved : (rd (after (exec (.rdBits 32#6) (onA 87#32 255#8 0#4 1#32))),
    (after (exec (.rdBits 32#6) (onA 87#32 255#8 0#4 1#32))).faultInfo) =
      ((41, 128, -1, 4), 0x04000020#32) := by decide +kernel
/-- Section 2.2.2, RD_SIGNED -7 deciding 1. -/
theorem test_rdSigned : (after (exec (.rdSigned (-7#16)) (onA 899#32 128#8 3#4 2#32))).result =
    7#32 := by decide
/-- Section 2.2.6, RD_SIGNED -32768 deciding 1 and 0. -/
theorem test_rdSigned_least :
    (after (exec (.rdSigned 0x8000#16) (onA 240#32 255#8 0#4 1#32))).result = 0x00008000#32 ∧
    (after (exec (.rdSigned 0x8000#16) (onA 16#32 255#8 0#4 1#32))).result = 0xFFFF8000#32 := by
  decide
/-- Section 3, P1 line 5. -/
theorem test_rdSave : ((after (exec .rdSave (onA 1923#32 128#8 4#4 2#32))).snapValue,
    (after (exec .rdSave (onA 1923#32 128#8 4#4 2#32))).snapCount) = (1923#32, 4#4) := by decide
/-- Section 3, P5 line 9. -/
theorem test_rdRestore : rd (after (exec .rdRestore { blank with
    snapValue := 1923#32, snapRange := 128#8, snapCount := 4#4, bsPos := 2#32 })) =
      (1923, 128, 4, 2) := by decide
/-- Section 2.6, SNAP_RANGE 127. -/
theorem test_rdRestore_bad : statusWord (after (exec .rdRestore
    { onA 87#32 255#8 0#4 1#32 with snapRange := 127#8 })) = 0x00000104#32 := by decide
/-- Section 3, P2 line 11: RANGE and COUNT after SOFT_RESET. -/
theorem test_softReset : (rd (after (exec .softReset { onA 3#32 128#8 (-1#4) 2#32 with
    fault := 1#8 })), statusWord (after (exec .softReset { onA 3#32 128#8 (-1#4) 2#32 with
    fault := 1#8 }))) = ((0, 255, -8, 0), 0#32) := by decide

/-- The block of section 2.3.2. -/
def general : State := { blank with d := rows [[100, -20, 0, 5], [30, 10], [0, 0, -7], [2, 0, 0, 1]] }

/-- Section 2.3.2, IT_DCT. -/
theorem test_itDct : corner 4 (after (exec (.itDct .n4 .luma) general)).res =
    [[1, 1, 1, 1], [1, 1, 1, 1], [0, 0, 1, 1], [0, 0, 1, 1]] := by decide +kernel
/-- Section 2.3.5, first line: row 2 of RES. -/
theorem test_itDct_along_x : (corner 8 (after (exec (.itDct .n8 .luma)
    { blank with d := rows [[0, 256]] })).res).getD 2 [] = [3, 2, 2, 1, -1, -2, -2, -3] := by
  decide +kernel
/-- Section 2.3.2, IT_DST4. -/
theorem test_itDst4 : corner 4 (after (exec (.itDst4 .luma) general)).res =
    [[0, 1, 1, 1], [0, 1, 1, 1], [0, 0, 1, 1], [0, 0, 1, 1]] := by decide +kernel
/-- Section 2.3.2, IT_SKIP rot. -/
theorem test_itSkip : corner 4 (after (exec (.itSkip .n4 .luma true) general)).res =
    [[0, 0, 0, 0], [0, 0, 0, 0], [0, 0, 0, 1], [0, 0, -1, 3]] := by decide +kernel
/-- Section 2.3.2, IT_BYPASS rot. -/
theorem test_itBypass : corner 4 (after (exec (.itBypass .n4 .luma true) general)).res =
    [[1, 0, 0, 2], [0, -7, 0, 0], [0, 0, 10, 30], [5, 0, -20, 100]] := by decide +kernel

/-- Section 2.5.3, first line: the values before. -/
def gaps : State := { blank with
  ref := .tabulate 129 fun i => ⟨decide (4 ≤ i ∧ i ≤ 12), BitVec.ofNat 16
    ([11, 12, 13, 14, 66, 64, 62, 60, 50, 100, 104, 108, 112, 21, 22, 23, 24].getD i 0)⟩ }

theorem test_ipSubst : vals 17 (after (exec (.ipSubst .n4 .luma) gaps)).ref =
    [66, 66, 66, 66, 66, 64, 62, 60, 50, 100, 104, 108, 112, 112, 112, 112, 112] := by
  decide +kernel
/-- Section 2.5.3, third and fourth lines: none available, at bit depths 8 and 10. -/
theorem test_ipSubst_gray :
    vals 17 (after (exec (.ipSubst .n4 .luma) blank)).ref = List.replicate 17 128 ∧
    vals 17 (after (exec (.ipSubst .n4 .chroma) { blank with bdC := 10#4 })).ref =
      List.replicate 17 512 := by decide +kernel
/-- Section 2.5.4. -/
theorem test_ipFilter : vals 33 (after (exec (.ipFilter .n8 .luma 2#6) { blank with
    ref := line [20, 30, 46, 68, 96, 130, 170, 216, 68, 126, 190, 60, 136, 218, 106, 200, 100, 206,
      118, 36, 160, 90, 26, 168, 116, 70, 30, 196, 168, 146, 130, 120, 116] })).ref =
    [20, 32, 48, 70, 98, 132, 172, 168, 120, 128, 142, 112, 138, 170, 158, 152, 152, 158, 120, 88,
      112, 92, 78, 120, 118, 72, 82, 148, 170, 148, 132, 122, 116] := by decide +kernel

/-- The reference line of section 2.5.5, CFG.STRONG = 1. -/
def bump : State := { blank with
  strong := true
  ref := .tabulate 129 fun i => ⟨true, BitVec.ofNat 16
    (if i ≤ 64 then 164 - i else if i = 75 then 123 else 100 + 2 * (i - 64))⟩ }

theorem test_ipFilter_strong :
    let t := after (exec (.ipFilter .n32 .luma 0#6) bump)
    (t.ipFilt, Spec.top t.ref 32 9, Spec.top t.ref 32 10, Spec.left t.ref 32 63) =
      (2#2, 120, 122, 164) := by decide +kernel
/-- Section 2.5.1. -/
theorem test_ipPlanar : corner 4 (after (exec (.ipPlanar .n4 .luma) e4)).pred =
    [[84, 93, 102, 111], [81, 89, 97, 106], [78, 85, 93, 100], [75, 82, 88, 95]] := by
  decide +kernel
theorem test_ipDc : corner 4 (after (exec (.ipDc .n4 .luma false) e4)).pred =
    [[83, 90, 91, 92], [79, 85, 85, 85], [80, 85, 85, 85], [80, 85, 85, 85]] := by decide +kernel
theorem test_ipAng_14 : corner 4 (after (exec (.ipAng .n4 .luma false 14#6) e4)).pred =
    [[56, 52, 62, 84], [61, 60, 58, 54], [63, 62, 62, 61], [65, 64, 64, 63]] := by decide +kernel
theorem test_ipAng_26 : corner 4 (after (exec (.ipAng .n4 .luma false 26#6) e4)).pred =
    [[105, 104, 108, 112], [106, 104, 108, 112], [107, 104, 108, 112], [108, 104, 108, 112]] := by
  decide +kernel
/-- Section 2.5.6: sums above and below the sample range. -/
theorem test_ipRecon : (corner 4 (after (exec (.ipRecon .n4 .luma) { blank with
    pred := rows [[85, 250, 3]], res := rows [[8, 8, -8]] })).out).getD 0 [] = [93, 255, 0, 0] := by
  decide +kernel

/-! ## Register accesses (section 2.7) -/

theorem test_write_cfg : cfgWord (after (step (State.having blank (.write 4#13 0x3C5#32)))) =
    0x1C8#32 ∧ cfgWord (after (step (State.having blank (.write 4#13 7#32)))) = 0x88#32 := by decide
theorem test_write_d : ((after (step (State.having blank (.write 0x400#13 0x12345#32)))).d.get 0) =
    0x2345#16 := by decide +kernel
theorem test_write_ref : refWord ((after (step (State.having blank
    (.write 0x1480#13 0x00010080#32)))).ref.get 128) = 0x00010080#32 := by decide +kernel
theorem test_read_count : (after (step (State.having State.reset (.read 0x00A#13)))).hostData =
    0xFFFFFFF8#32 := by decide
theorem test_read_d : (after (step (State.having { blank with d := rows [[-32768]] }
    (.read 0x400#13)))).hostData = 0xFFFF8000#32 := by decide +kernel
theorem test_read_reserved : (after (step (State.having blank (.read 0x1481#13)))).hostData =
    0#32 := by decide

/-! ## Witnesses: a concrete case that meets all hypotheses of each statement that has some -/


/-- A decoder on window A with a byte left, no fault. -/
def ready : State := onA 87#32 255#8 0#4 1#32

/-- A decoder that needs a byte its window does not have. -/
def dry : State := onA 41#32 128#8 (-1#4) 4#32

/-- A recorded CoderUnderflow. -/
def faulty : State := { dry with fault := 1#8, faultInfo := 0x03000000#32 }

theorem witness_DecodeOfEncode : (Instr.ipAng .n32 .chroma true 34#6).WellFormed := by decide

theorem witness_EncodeOfDecode : decode 0x24000442#32 = .ok (.ipAng .n4 .luma false 34#6) := by
  decide

theorem witness_DecodeFollowsOpcodeMap_legal :
    decode 0x7F000000#32 = .ok .softReset ∧
    Spec.opcodeRows[18]? = some ⟨0xFFFFFFFF, 0x7F000000, fun _ => true⟩ := ⟨by decide, rfl⟩

theorem witness_DecodeFollowsOpcodeMap_illegal :
    decode 0x24000462#32 = .error .fieldLimit ∧
    ⟨0xFFFFFFFF, 0x00000000, fun _ => true⟩ ∈ Spec.opcodeRows := ⟨by decide, .head _⟩

theorem witness_IllFormedCommandIsIllegal : (Instr.rdBits 33#6).wf = false ∧ ready.fault = 0#8 := by
  decide

theorem witness_StepRunsDecodedCommand :
    (State.having ready (.write 0#13 0x04000020#32)).bus = .write 0#13 0x04000020#32 :: [] ∧
    decode 0x04000020#32 = .ok (.rdBits 32#6) := by decide

theorem witness_IllegalWordRaisesIllegalCommand :
    (State.having ready (.write 0#13 0x04000021#32)).bus = .write 0#13 0x04000021#32 :: [] ∧
    ready.fault = 0#8 ∧ ∀ row ∈ Spec.opcodeRows, ¬ row.selects 0x04000021#32 := by
  refine ⟨rfl, rfl, ?_⟩
  unfold Spec.OpcodeRow.selects
  decide

/-- The three clauses: commands other than SOFT_RESET's word, the nearest illegal word among them;
the first and the last index other than CMD's. -/
theorem witness_RecordedFaultDiscardsCommands :
    faulty.fault ≠ 0#8 ∧ (0#32 : Word) ≠ 0x7F000000#32 ∧ 0x7F000001#32 ≠ 0x7F000000#32 ∧
    1#13 ≠ 0#13 ∧ 0x1FFF#13 ≠ 0#13 := by decide

/-- The three ways a step meets the hypotheses: a discarded command, SOFT_RESET, the reset. -/
theorem witness_FaultClearedOnlyByReset :
    ∀ e ∈ [BusEvent.write 0#13 0x01000000#32, .write 0#13 0x7F000000#32, .hardReset],
      (∃ t, step (State.having faulty e) = .next t) ∧ (State.having faulty e).fault ≠ 0#8 := by
  intro e he
  simp only [List.mem_cons, List.not_mem_nil, or_false] at he
  obtain rfl | rfl | rfl := he <;> exact ⟨⟨_, rfl⟩, by decide⟩

theorem witness_RdNotInitWithoutDecoder :
    (Instr.rdBits 0#6).WellFormed ∧ blank.fault = 0#8 ∧ blank.rdValid = false ∧
    ∃ n, Instr.rdBits 0#6 = .rdBits n := ⟨rfl, rfl, rfl, 0#6, rfl⟩

theorem witness_StarvedFirstDecisionUnderflows :
    (Instr.rdBits 1#6).WellFormed ∧ 1 ≤ Spec.decisions (.rdBits 1#6) ∧ dry.fault = 0#8 ∧
    dry.rdValid = true ∧ dry.count.toInt < 0 ∧ dry.bsLen.toNat ≤ dry.bsPos.toNat := by decide

theorem witness_HardResetSetsRegisters :
    (State.having faulty .hardReset).bus = .hardReset :: [] := rfl

/-- Both clauses: a window with bytes and an empty one. -/
theorem witness_RdInitLoadsFirstByte :
    (ready.fault = 0#8 ∧ ready.bsLen ≠ 0#32) ∧ blank.fault = 0#8 ∧ blank.bsLen = 0#32 := by decide

/-- COUNT at the least value without a refill. -/
theorem witness_decision_filled :
    ready.fault = 0#8 ∧ ready.rdValid = true ∧ 128 ≤ ready.range.toNat ∧ Spec.CanDecide ready :=
  ⟨rfl, rfl, by decide, .inl (by decide)⟩

/-- COUNT = -1 with the last byte of the window still to fetch. -/
theorem witness_decision_refilled :
    (onA 49#32 128#8 (-1#4) 3#32).fault = 0#8 ∧ (onA 49#32 128#8 (-1#4) 3#32).rdValid = true ∧
    128 ≤ (onA 49#32 128#8 (-1#4) 3#32).range.toNat ∧
    Spec.CanDecide (onA 49#32 128#8 (-1#4) 3#32) := ⟨rfl, rfl, by decide, .inr (by decide)⟩

/-- A decision that is starved of its byte. -/
theorem witness_decision_starved :
    dry.fault = 0#8 ∧ dry.rdValid = true ∧ 128 ≤ dry.range.toNat ∧ ¬ Spec.CanDecide dry := by
  unfold Spec.CanDecide; decide

/-- The hypotheses of `RdDecideMakesDecision`, `RdDecideEqMakesEvenDecision` and
`RdSignedSelectsSign`: one case for each way to make a decision, and the starved one. -/
theorem witness_RdDecideMakesDecision :
    (∀ s ∈ [ready, onA 49#32 128#8 (-1#4) 3#32],
      s.fault = 0#8 ∧ s.rdValid = true ∧ 128 ≤ s.range.toNat ∧ Spec.CanDecide s) ∧
    dry.fault = 0#8 ∧ dry.rdValid = true ∧ 128 ≤ dry.range.toNat ∧ ¬ Spec.CanDecide dry := by
  refine ⟨fun s hs => ?_, witness_decision_starved⟩
  simp only [List.mem_cons, List.not_mem_nil, or_false] at hs
  obtain rfl | rfl := hs
  · exact witness_decision_filled
  · exact witness_decision_refilled

theorem witness_RdDecideEqMakesEvenDecision :
    ready.fault = 0#8 ∧ ready.rdValid = true ∧ 128 ≤ ready.range.toNat ∧ Spec.CanDecide ready :=
  witness_decision_filled

theorem witness_RdSignedSelectsSign :
    ready.fault = 0#8 ∧ ready.rdValid = true ∧ 128 ≤ ready.range.toNat ∧ Spec.CanDecide ready :=
  witness_decision_filled

/-- Both clauses on window A (section 2.2.3): all 26 decisions made; of 32, the 27th starved. -/
theorem witness_RdBitsAssemblesBits :
    (32#6 : BitVec 6).toNat ≤ 32 ∧ ready.fault = 0#8 ∧ ready.rdValid = true ∧
    128 ≤ ready.range.toNat ∧
    (Spec.decideMany (Spec.windowByte ready) ready.bsLen.toNat (26#6 : BitVec 6).toNat
      (Spec.coder ready)).map (·.2) = some ⟨41, 128, -1, 4⟩ ∧
    26 < (32#6 : BitVec 6).toNat ∧
    Spec.decideBit (Spec.windowByte ready) ready.bsLen.toNat 128 ⟨41, 128, -1, 4⟩ = none := by
  decide +kernel

/-- Both clauses of the premise on `n`: 0 in a window with nothing left, and 25, the greatest `n`
that 24 bits left and COUNT = 0 are enough for. -/
theorem witness_RdBitsCompletesWithEnoughBytes :
    (dry.fault = 0#8 ∧ dry.rdValid = true ∧ 128 ≤ dry.range.toNat ∧ (0#6 : BitVec 6).toNat = 0) ∧
    ((25#6 : BitVec 6).toNat ≤ 32 ∧ ready.fault = 0#8 ∧ ready.rdValid = true ∧
      128 ≤ ready.range.toNat ∧
      ((25#6 : BitVec 6).toNat : Int) - 1 - ready.count.toInt =
        8 * ((ready.bsLen.toNat - ready.bsPos.toNat : Nat) : Int)) := by decide

theorem witness_RdSaveCopiesDecoder : ready.fault = 0#8 ∧ ready.rdValid = true := by decide

/-- Both clauses at their boundary, SNAP_RANGE 128 and 127. -/
theorem witness_RdRestoreCopiesSnapshot :
    (({ blank with snapRange := 128#8 } : State).fault = 0#8 ∧
      128 ≤ ({ blank with snapRange := 128#8 } : State).snapRange.toNat) ∧
    ({ blank with snapRange := 127#8 } : State).snapRange.toNat < 128 := by decide

/-- The clauses on RANGE and the bit (section 2.2.10): RANGE 254; RANGE 255 deciding 1 (top 200)
and 0 (top 87). -/
theorem witness_FastPathAgreesWithEvenDecision :
    (∀ s ∈ [onA 87#32 254#8 0#4 1#32, onA 200#32 255#8 0#4 1#32, onA 87#32 255#8 0#4 1#32],
      s.fault = 0#8 ∧ s.rdValid = true ∧ 128 ≤ s.range.toNat ∧ 0 ≤ s.count.toInt) ∧
    (after (exec .rdDecideEq (onA 200#32 255#8 0#4 1#32))).result = 1#32 ∧
    (after (exec .rdDecideEq (onA 87#32 255#8 0#4 1#32))).result = 0#32 := by decide

theorem witness_DecisionLeavesRangeNormalized :
    1 ≤ Spec.decisions (.rdDecide 0#8) ∧ 128 ≤ ready.range.toNat ∧ ready.fault = 0#8 ∧
    ∃ t, exec (.rdDecide 0#8) ready = .next t ∧ t.fault = 0#8 := by
  refine ⟨by decide, by decide, rfl, _, rfl, by decide⟩

/-- COUNT = -1 and RANGE a multiple of 2, INV true, the command RD_DECIDE 200. -/
theorem witness_CommandsKeepValueInvariant :
    128 ≤ (onA 87#32 200#8 (-1#4) 1#32).range.toNat ∧ (onA 87#32 200#8 (-1#4) 1#32).ValueInv ∧
    Spec.RangeAligned (onA 87#32 200#8 (-1#4) 1#32) ∧ Instr.rdDecide 200#8 ≠ .rdInit ∧
    Instr.rdDecide 200#8 ≠ .rdRestore ∧ Instr.rdDecide 200#8 ≠ .softReset ∧
    ∃ t, exec (.rdDecide 200#8) (onA 87#32 200#8 (-1#4) 1#32) = .next t := by
  refine ⟨by decide, ?_, ?_, by decide, by decide, by decide, _, rfl⟩
  · unfold State.ValueInv; decide
  · unfold Spec.RangeAligned; decide

theorem witness_InitInvariantIffFirstByteNotFF : ready.fault = 0#8 ∧ ready.bsLen ≠ 0#32 := by decide

/-- RANGE at the greatest value of the premise. -/
theorem witness_EvenDecisionsConsumeOneBitEach :
    (∃ n, Instr.rdBits 5#6 = .rdBits n) ∧ 128 ≤ (onA 87#32 254#8 0#4 1#32).range.toNat ∧
    (onA 87#32 254#8 0#4 1#32).range.toNat ≤ 254 ∧ (onA 87#32 254#8 0#4 1#32).fault = 0#8 ∧
    ∃ t, exec (.rdBits 5#6) (onA 87#32 254#8 0#4 1#32) = .next t ∧ t.fault = 0#8 :=
  ⟨⟨_, rfl⟩, by decide, by decide, rfl, _, rfl, by decide⟩

/-- The hypothesis of the IT and IP statements that have no other: `ItDctTransformsBlock`,
`ItDst4TransformsBlock`, `IpSubstPropagatesNearest`, `IpPlanarPredicts`, `IpDcPredicts`,
`IpReconAddsAndClips`. -/
theorem witness_no_fault : e4.fault = 0#8 ∧ general.fault = 0#8 ∧ gaps.fault = 0#8 := by decide

theorem witness_ItSkipShiftsCoefficients :
    (Instr.itSkip .n4 .luma true).WellFormed ∧ (Instr.itSkip .n32 .luma false).WellFormed ∧
    general.fault = 0#8 := by decide

theorem witness_ItBypassCopiesCoefficients :
    (Instr.itBypass .n4 .chroma true).WellFormed ∧ (Instr.itBypass .n32 .luma false).WellFormed ∧
    general.fault = 0#8 := by decide

/-- One coefficient of 256 at (3, 0), the edge of a 4 by 4 block. -/
theorem witness_SingleCoefficientFollowsBasis :
    let s : State := { blank with d := rows [[0, 0, 0, 256]] }
    s.fault = 0#8 ∧ 3 < BlockSize.n4.n ∧ 0 < BlockSize.n4.n ∧
    (∀ x < BlockSize.n4.n, ∀ y < BlockSize.n4.n, (x ≠ 3 ∨ y ≠ 0) → Spec.signedAt s.d x y = 0) ∧
    Spec.signedAt s.d 3 0 = 256 := by decide +kernel

theorem witness_DcOnlyBlockIsUniform :
    let s : State := { blank with d := rows [[32767]] }
    s.fault = 0#8 ∧
    (∀ x < BlockSize.n4.n, ∀ y < BlockSize.n4.n, (x ≠ 0 ∨ y ≠ 0) → Spec.signedAt s.d x y = 0) ∧
    Spec.signedAt s.d 0 0 = 32767 := by decide +kernel

/-- The three clauses on a sample: none available; the nearest one at or before it, at the last
index; the first one after it, at index 0. -/
theorem witness_IpSubstPropagatesNearest :
    (∀ j ≤ 4 * BlockSize.n4.n, (blank.ref.get j).avail = false) ∧
    ((gaps.ref.get 12).avail = true ∧ ∀ k ≤ 16, 12 < k → (gaps.ref.get k).avail = false) ∧
    ((gaps.ref.get 4).avail = true ∧ ∀ k < 4, (gaps.ref.get k).avail = false) := by decide +kernel

/-- filterFlag = 0 by mode 1, by size 4, and at the threshold of size 8 (mode 25, distance 1). -/
theorem witness_IpFilterOffKeepsReferences :
    (Instr.ipFilter .n32 .luma 1#6).WellFormed ∧ (Instr.ipFilter .n8 .luma 25#6).WellFormed ∧
    e4.fault = 0#8 ∧ ¬ Spec.Filters .n32 1 ∧ ¬ Spec.Filters .n4 2 ∧ ¬ Spec.Filters .n8 25 := by
  unfold Spec.Filters; decide

/-- filterFlag = 1 with distance 8 at size 8; not the strong filter's size. -/
theorem witness_IpFilterThreeTapSmooths :
    (Instr.ipFilter .n8 .luma 2#6).WellFormed ∧ bump.fault = 0#8 ∧ Spec.Filters .n8 2 ∧
    ¬ Spec.StrongChosen bump .n8 .luma := by
  unfold Spec.Filters Spec.StrongChosen; decide

theorem witness_IpFilterStrongInterpolates :
    (Instr.ipFilter .n32 .luma 0#6).WellFormed ∧ bump.fault = 0#8 ∧ Spec.Filters .n32 0 ∧
    Spec.StrongChosen bump .n32 .luma := by
  unfold Spec.Filters Spec.StrongChosen; decide +kernel

/-- The least and the greatest mode, and the two modes next to the turn. -/
theorem witness_IpAngPredicts : e4.fault = 0#8 ∧
    ∀ mode ∈ [2#6, 17#6, 18#6, 34#6], (Instr.ipAng .n4 .luma false mode).WellFormed := by decide

/-- A flat reference at the greatest sample, in mode 26 with its boundary filter. -/
theorem witness_FlatReferencePredictsFlat :
    let s : State := { blank with ref := line (List.replicate 17 255) }
    (Instr.ipAng .n4 .luma false 26#6).WellFormed ∧
    (∃ nf mode, Instr.ipAng .n4 .luma false 26#6 = .ipAng .n4 .luma nf mode) ∧
    s.fault = 0#8 ∧ (255 : Int) < 2 ^ Spec.depthOf s .luma ∧
    (∀ k ≤ 4 * BlockSize.n4.n, Spec.refVal s.ref k = 255) ∧
    ∃ t, exec (.ipAng .n4 .luma false 26#6) s = .next t :=
  ⟨rfl, ⟨_, _, rfl⟩, rfl, by decide, by decide +kernel, _, rfl⟩

/-- E4 between 50 and 144, in mode 10 with nf = 1. -/
theorem witness_PredictionStaysWithinReferences :
    (Instr.ipAng .n4 .luma true 10#6).WellFormed ∧
    (∃ nf mode, Instr.ipAng .n4 .luma true 10#6 = .ipAng .n4 .luma nf mode ∧
      ((mode ≠ 10#6 ∧ mode ≠ 26#6) ∨ Spec.boundaryOn .n4 .luma nf = false)) ∧
    e4.fault = 0#8 ∧
    (∀ k ≤ 4 * BlockSize.n4.n, 50 ≤ Spec.refVal e4.ref k ∧ Spec.refVal e4.ref k ≤ 144) ∧
    ∃ t, exec (.ipAng .n4 .luma true 10#6) e4 = .next t :=
  ⟨rfl, ⟨_, _, rfl, .inr rfl⟩, rfl, by decide +kernel, _, rfl⟩

/-- Both clauses: the available samples of section 2.5.3 between 50 and 112, with unavailable ones
outside; the line of section 2.5.5 between 100 and 228. -/
theorem witness_PreparedReferencesStayWithinReferences :
    (gaps.fault = 0#8 ∧ (∃ k ≤ 4 * BlockSize.n4.n, (gaps.ref.get k).avail = true) ∧
      (∀ k ≤ 4 * BlockSize.n4.n, (gaps.ref.get k).avail = true →
        50 ≤ Spec.refVal gaps.ref k ∧ Spec.refVal gaps.ref k ≤ 112)) ∧
    bump.fault = 0#8 ∧ (Instr.ipFilter .n32 .luma 0#6).WellFormed ∧
    ∀ k ≤ 4 * BlockSize.n32.n, 100 ≤ Spec.refVal bump.ref k ∧ Spec.refVal bump.ref k ≤ 228 := by
  decide +kernel

/-- The index of each clause is an index; the reserved ones at the ends of their ranges. -/
theorem witness_ControlRegistersReadAsMapped :
    (∀ k < 14, (State.having ready (.read (BitVec.ofNat 13 k))).bus =
      .read (BitVec.ofNat 13 k) :: []) ∧
    ∀ k ∈ [0x00E, 0x3FF, 0x1481, 0x1FFF],
      (0x00E ≤ (BitVec.ofNat 13 k).toNat ∧ (BitVec.ofNat 13 k).toNat ≤ 0x3FF ∨
        0x1481 ≤ (BitVec.ofNat 13 k).toNat) := by decide

/-- The first and the last entry of each buffer, and a step that reads it. -/
theorem witness_BuffersReadAsMapped :
    (∃ t, step (State.having e4 (.read 0x400#13)) = .next t) ∧
    (∀ b ∈ [0x400, 0x800, 0xC00, 0x1000],
      (BitVec.ofNat 13 b).toNat = b + 0 * 32 + 0 ∧
      (BitVec.ofNat 13 (b + 1023)).toNat = b + 31 * 32 + 31) ∧
    (0x1400#13).toNat = 0x1400 + 0 ∧ (0x1480#13).toNat = 0x1400 + 128 :=
  ⟨⟨_, rfl⟩, by decide, rfl, rfl⟩

theorem witness_ControlRegisterWrites :
    ∀ k ∈ [0x004, 0x005, 0x006, 0x007, 0x00B, 0x00C, 0x00D],
      (State.having ready (.write (BitVec.ofNat 13 k) 0xFFFFFFFF#32)).bus =
        .write (BitVec.ofNat 13 k) 0xFFFFFFFF#32 :: [] := by decide

/-- The first and the last entry of each buffer a host can write. -/
theorem witness_BufferWritesStoreOneEntry :
    (State.having ready (.write 0x400#13 1#32)).bus = .write 0x400#13 1#32 :: [] ∧
    (∀ b ∈ [0x400, 0x800, 0xC00],
      (BitVec.ofNat 13 b).toNat = b + 0 ∧ (BitVec.ofNat 13 (b + 1023)).toNat = b + 1023) ∧
    (0x1400#13).toNat = 0x1400 + 0 ∧ (0x1480#13).toNat = 0x1400 + 128 := by decide

theorem witness_IgnoredWritesChangeNothing :
    (State.having ready (.write 0x1000#13 1#32)).bus = .write 0x1000#13 1#32 :: [] ∧
    ∀ k ∈ [0x001, 0x00A, 0x00E, 0x3FF, 0x1000, 0x13FF, 0x1481, 0x1FFF],
      ((BitVec.ofNat 13 k).toNat ∈ [0x001, 0x002, 0x003, 0x008, 0x009, 0x00A] ∨
        0x00E ≤ (BitVec.ofNat 13 k).toNat ∧ (BitVec.ofNat 13 k).toNat ≤ 0x3FF ∨
        0x1000 ≤ (BitVec.ofNat 13 k).toNat ∧ (BitVec.ofNat 13 k).toNat ≤ 0x13FF ∨
        0x1481 ≤ (BitVec.ofNat 13 k).toNat) := by decide

theorem witness_OtherMasterWritesOneByte :
    Memory.wf ready.mem = true ∧
    (State.having ready (.memWrite 0xFFFFFFFF#32 0#8)).bus = .memWrite 0xFFFFFFFF#32 0#8 :: [] := by
  decide

theorem witness_CommandsNeverWriteMemory : ∃ t, exec (.rdBits 5#6) ready = .next t := ⟨_, rfl⟩

/-- Window A in another memory that agrees on its four bytes and on no other. -/
theorem witness_BytesOutsideWindowAreNotRead :
    (∀ p, p < ready.bsLen.toNat →
      Spec.windowByte { ready with mem := bytesA ++ [(0x1004, 0xFF#8)] } p =
        Spec.windowByte ready p) ∧
    ∃ t, exec (.rdBits 5#6) ready = .next t := by
  refine ⟨?_, _, rfl⟩
  have h : ∀ p < 4, Spec.windowByte { ready with mem := bytesA ++ [(0x1004, 0xFF#8)] } p =
      Spec.windowByte ready p := by decide
  exact h

theorem witness_StepKeepsInvariant :
    (State.having ready (.write 4#13 0#32)).Inv ∧
    ∃ t, step (State.having ready (.write 4#13 0#32)) = .next t :=
  ⟨⟨by decide, by decide, by decide, by decide, by decide, by decide⟩, _, rfl⟩

theorem witness_RunsNeverStop :
    (State.having ready (.write 4#13 0#32)).Inv ∧
    ∃ t, Reaches (State.having ready (.write 4#13 0#32)) t :=
  ⟨witness_StepKeepsInvariant.1, _, .refl _⟩

end Sys2Proof.Tests
end

section
/-!
PROOFS. The statements about the state: what a host reads and writes (10_state.md R17 to R28), what
no command writes, and the invariant of reachable states (10_state.md R33) with the absence of
stops that follows from it.
-/

namespace Sys2Proof.Proofs.RegisterState

open Sys2Proof.Machine

section HostAccess

variable {s t : State} {index : RegIndex} {data : Word} {rest : List BusEvent}

/-! ### The host's reads -/

/-- Taking a move off the queue changes no register. -/
theorem readReg_withBus (s : State) (b : List BusEvent) (r : Reg) :
    readReg (s.withBus b) r = readReg s r := by
  cases r <;> rfl

/-- A pending host read completes and puts the register's word on the data lines. -/
theorem step_read (hb : s.bus = .read index :: rest) :
    step s = .next ((s.withBus rest).withHostData (readReg s (regAt index))) := by
  rw [step_event hb, ← readReg_withBus s rest]
  rfl

/-- The reserved indices (10_state.md R28). -/
theorem regAt_reserved
    (h : 0x00E ≤ index.toNat ∧ index.toNat ≤ 0x3FF ∨ 0x1481 ≤ index.toNat) :
    regAt index = .reserved := by
  rcases h with ⟨hlo, hhi⟩ | hbeyond
  · exact regAt_unassigned hlo hhi
  · exact regAt_beyond hbeyond

theorem rdRange_read_toNat (s : State) : (readReg s .rdRange).toNat = s.range.toNat :=
  BitVec.toNat_setWidth_of_le (by decide)

theorem rdCount_read_toInt (s : State) : (readReg s .rdCount).toInt = s.count.toInt :=
  BitVec.toInt_signExtend_of_le (by decide)

theorem snapRange_read_toNat (s : State) : (readReg s .snapRange).toNat = s.snapRange.toNat :=
  BitVec.toNat_setWidth_of_le (by decide)

theorem snapCount_read_toInt (s : State) : (readReg s .snapCount).toInt = s.snapCount.toInt :=
  BitVec.toInt_signExtend_of_le (by decide)

/-- The word on the data lines after a pending host read. -/
theorem hostData_of_read (hb : s.bus = .read index :: rest) (hstep : step s = .next t) {r : Reg}
    (hr : regAt index = r) : t.hostData = readReg s r := by
  rw [step_read hb, hr] at hstep
  cases hstep
  rfl

/-! ### The host's writes -/

/-- A pending host write to a register other than CMD completes and writes that register. -/
theorem step_write (hb : s.bus = .write index data :: rest) {r : Reg} (hr : regAt index = r)
    (hcmd : r ≠ .cmd) : step s = .next (writeReg (s.withBus rest) data r) := by
  have hindex : index ≠ 0#13 := fun h => hcmd (hr ▸ regAt_eq_cmd.2 h)
  rw [step_event hb, ← hr]
  exact hostWrite_other hindex data

/-- A field at bit 0 takes the low bits of the data. -/
theorem extractLsb'_zero (w : Word) (n : Nat) : w.extractLsb' 0 n = BitVec.ofNat n w.toNat :=
  BitVec.eq_of_toNat_eq (by simp)

theorem getLsbD_eq_decide (w : Word) (k : Nat) :
    w.getLsbD k = decide (w.toNat / 2 ^ k % 2 = 1) :=
  Nat.testBit_eq_decide_div_mod_eq

/-- CFG's bit depths as it stores them, from the field at bit `lo` (10_state.md R19). -/
theorem storedDepth_field (data : Word) (lo : Nat) :
    (storedDepth (data.extractLsb' lo 4)).toNat = max 8 (data.toNat / 2 ^ lo % 16) := by
  rw [storedDepth_toNat, BitVec.extractLsb'_toNat, Nat.shiftRight_eq_div_pow]

/-- `Buffer.set` replaces the entry it names and no other. -/
theorem get_set_stores_one {α : Type} [Inhabited α] {n k : Nat} (b : Buffer α n) (v : α)
    (hk : k < n) : (b.set k v).get k = v ∧ ∀ j ≠ k, (b.set k v).get j = b.get j :=
  ⟨Buffer.get_set_same b v hk, fun _ hj => Buffer.get_set_other b v hj⟩

/-- The registers whose host writes are ignored: the read-only ones, OUT and the reserved ones
(10_state.md R25, R28). -/
def ignoresWrites : Reg → Bool
  | .status | .result | .faultInfo | .rdValue | .rdRange | .rdCount | .out _ | .reserved => true
  | _ => false

theorem writeReg_of_ignoresWrites (s : State) (data : Word) {r : Reg}
    (h : ignoresWrites r = true) : writeReg s data r = s := by
  cases r with
  | status | result | faultInfo | rdValue | rdRange | rdCount | out | reserved => rfl
  | _ => cases h

/-- The indices of the registers whose host writes are ignored. -/
theorem ignoresWrites_regAt
    (h : index.toNat ∈ [0x001, 0x002, 0x003, 0x008, 0x009, 0x00A] ∨
      0x00E ≤ index.toNat ∧ index.toNat ≤ 0x3FF ∨
      0x1000 ≤ index.toNat ∧ index.toNat ≤ 0x13FF ∨ 0x1481 ≤ index.toNat) :
    ignoresWrites (regAt index) = true := by
  rcases h with hlow | hunassigned | hout | hbeyond
  · have hread : ∀ i ∈ [0x001, 0x002, 0x003, 0x008, 0x009, 0x00A],
        i < 0x400 ∧ ignoresWrites (lowRegs.getD i .reserved) = true := by decide
    obtain ⟨hlt, hignores⟩ := hread _ hlow
    rwa [regAt_low hlt]
  · rw [regAt_reserved (.inl hunassigned)]
    rfl
  · obtain ⟨k, hk⟩ := Nat.exists_eq_add_of_le hout.1
    rw [regAt_out (k := k) (by omega) hk]
    rfl
  · rw [regAt_reserved (.inr hbeyond)]
    rfl

end HostAccess

/-! ### One decision -/

/-- The interval a decision from RANGE `range` keeps on the bit `b`, for the split `split`, is at
least 1 and at most 254 (40_range_decoder.md R79). -/
theorem kept_interval_mem {range split : Nat} (hlt : range < 256) (hsplit : split < range - 1)
    (b : Bool) :
    1 ≤ (if b then range - 1 - split else split + 1) ∧
      (if b then range - 1 - split else split + 1) ≤ 254 := by
  split <;> omega

/-- Steps 2 and 3 of a decision from RANGE at least 128 complete and leave RANGE at least 128
(40_range_decoder.md R79). -/
theorem decideFilled_range {s : State} {prob : Nat} (hp : prob ≤ 255)
    (hr : 128 ≤ s.range.toNat) :
    ∃ b t, decideFilled prob s = .bit b t ∧ 128 ≤ t.range.toNat := by
  refine ⟨_, _, decideFilled_eq hr hp, ?_⟩
  obtain ⟨hone, hmost⟩ := kept_interval_mem s.range.isLt (split_lt (by omega) hp)
    (decide ((s.range.toNat - 1) * prob / 256 < s.value.toNat / 2 ^ s.count.toNat))
  obtain ⟨hge, hle⟩ := renorm_range hone hmost
  rw [BitVec.toNat_ofNat, Nat.mod_eq_of_lt (Nat.lt_of_le_of_lt hle (by decide))]
  exact hge

/-- A decision from RANGE at least 128 is starved, or completes and leaves RANGE at least 128. -/
theorem decideBit_range {s : State} {prob : Nat} (hp : prob ≤ 255) (hr : 128 ≤ s.range.toNat) :
    decideBit prob s = .underflow ∨
      ∃ b t, decideBit prob s = .bit b t ∧ 128 ≤ t.range.toNat := by
  rcases lt_or_ge s.count.toInt 0 with hneg | hnonneg
  · cases hfill : refill s with
    | none => exact .inl (decideBit_starved hneg (refill_eq_none.1 hfill) prob)
    | some u =>
      have hu : 128 ≤ u.range.toNat := by
        obtain ⟨-, rfl⟩ := refill_eq_some.1 hfill
        exact hr
      rw [decideBit_refilled hneg hfill]
      exact .inr (decideFilled_range hp hu)
  · rw [decideBit_filled hnonneg]
    exact .inr (decideFilled_range hp hr)

/-! ### What a command writes -/

/-- One write of the block's registers that a command other than SOFT_RESET may make. -/
inductive Update (s : State) : State → Prop where
  | raise (x : FaultCode) (cmd : Word) : Update s (s.raise x cmd)
  /-- No command takes RANGE below 128 from a RANGE that was not (40_range_decoder.md R79). -/
  | coder (value : BitVec 32) {range : BitVec 8} (count : BitVec 4)
      (hrange : 128 ≤ s.range.toNat → 128 ≤ range.toNat) :
      Update s (s.withCoder value range count)
  | bsPos (p : BitVec 32) : Update s (s.withBsPos p)
  | rdValid (b : Bool) : Update s (s.withRdValid b)
  | result (r : Word) : Update s (s.withResult r)
  | snap (value : BitVec 32) (range : BitVec 8) (count : BitVec 4) :
      Update s (s.withSnap value range count)
  | res (b : Block) : Update s (s.withRes b)
  | pred (b : Block) : Update s (s.withPred b)
  | out (b : Block) : Update s (s.withOut b)
  | ref (r : RefLine) : Update s (s.withRef r)
  /-- IP_FILT takes its three values only (10_state.md R17). -/
  | ipFilt {f : BitVec 2} (hf : f.toNat ≤ 2) : Update s (s.withIpFilt f)

/-- `t` comes from `s` by such writes. -/
abbrev Updates : State → State → Prop := Relation.ReflTransGen Update

/-- The code of a fault is one of 60_exceptions.md R126. -/
theorem code_le (x : FaultCode) : x.code.toNat ≤ 4 := by
  cases x <;> decide

theorem Update.inv {s t : State} (h : Update s t) (hi : s.Inv) : t.Inv := by
  cases h with
  | raise x cmd => exact { hi with fault_le := code_le x }
  | coder value count hrange => exact { hi with range_ge := hrange hi.range_ge }
  | ipFilt hf => exact { hi with ipFilt_le := hf }
  | bsPos | rdValid | result | snap | res | pred | out | ref => exact { hi with }

theorem Updates.inv {s t : State} (h : Updates s t) (hi : s.Inv) : t.Inv := by
  induction h with
  | refl => exact hi
  | tail _ hlast ih => exact hlast.inv ih

/-- What no command but SOFT_RESET writes. -/
def keptByCommands (s : State) :
    List Host.Cell × Block × List BusEvent × Word × Nat × BitVec 4 × BitVec 4 × Bool :=
  (s.mem, s.d, s.bus, s.hostData, s.resets, s.bdY, s.bdC, s.strong)

theorem Update.kept {s t : State} (h : Update s t) : keptByCommands t = keptByCommands s := by
  cases h <;> rfl

theorem Updates.kept {s t : State} (h : Updates s t) : keptByCommands t = keptByCommands s := by
  induction h with
  | refl => rfl
  | tail _ hlast ih => exact hlast.kept.trans ih

/-- The four registers of a refill or a decision written. -/
theorem updates_decoder {s t : State}
    (hframe : t = { s with
      value := t.value, range := t.range, count := t.count, bsPos := t.bsPos })
    (hrange : 128 ≤ s.range.toNat → 128 ≤ t.range.toNat) : Updates s t := by
  rw [hframe]
  exact .tail (.single (.coder t.value t.count hrange)) (.bsPos t.bsPos)

theorem refill_updates {s t : State} (h : refill s = some t) : Updates s t := by
  obtain ⟨-, rfl⟩ := refill_eq_some.1 h
  exact updates_decoder rfl id

/-! ### What is said of an outcome

A next state comes by the writes above, and a stop happens in states without the invariant only. -/

/-- The outcome of a command from `s`. -/
def Behaves (s : State) : StepOutcome → Prop
  | .next t => Updates s t
  | .fault _ => ¬ s.Inv
  | .refused _ => False

/-- The outcome of one decision from `s`. -/
def DecisionBehaves (s : State) : Decided → Prop
  | .bit _ t => Updates s t
  | .underflow => True
  | .stuck => ¬ s.Inv

/-- The outcome of a run of decisions from `s`. -/
def BitsBehave (s : State) : BitsRun → Prop
  | .done _ t => Updates s t
  | .starved t => Updates s t
  | .stuck => ¬ s.Inv

theorem Behaves.update {s t : State} (h : Update s t) : Behaves s (.next t) := .single h

theorem Behaves.raised (s : State) (x : FaultCode) (cmd : Word) :
    Behaves s (.next (s.raise x cmd)) := .update (.raise x cmd)

/-- Checks (1) and (2) of 40_range_decoder.md R64. -/
theorem Behaves.checked {s : State} {run : State → StepOutcome} (i : Instr)
    (h : Behaves s (run s)) : Behaves s (checked i s run) := by
  unfold Machine.checked
  split
  · exact .refl
  · split
    · exact h
    · exact .raised s _ _

/-- Check (3) of 40_range_decoder.md R64. -/
theorem Behaves.needsDecoder {s : State} {run : State → StepOutcome} (i : Instr)
    (h : Behaves s (run s)) : Behaves s (needsDecoder i s run) := by
  cases hv : s.rdValid with
  | true => rwa [needsDecoder_valid hv]
  | false =>
    rw [needsDecoder_invalid hv]
    exact .raised s _ _

theorem decideBit_behaves {prob : Nat} (hp : prob ≤ 255) (s : State) :
    DecisionBehaves s (decideBit prob s) := by
  cases hd : decideBit prob s with
  | underflow => trivial
  | bit b t =>
    refine updates_decoder (decideBit_frame hd) fun hr => ?_
    obtain hstarved | ⟨_, u, hbit, hu⟩ := decideBit_range hp hr
    · cases hd.symm.trans hstarved
    · cases hd.symm.trans hbit
      exact hu
  | stuck =>
    intro hi
    obtain hstarved | ⟨_, _, hbit, -⟩ := decideBit_range hp hi.range_ge
    · cases hd.symm.trans hstarved
    · cases hd.symm.trans hbit

/-- More decisions after writes that keep the invariant. -/
theorem BitsBehave.after {s u : State} (h : Updates s u) {r : BitsRun} (hr : BitsBehave u r) :
    BitsBehave s r := by
  cases r with
  | done v t => exact h.trans hr
  | starved t => exact h.trans hr
  | stuck => exact fun hi => hr (h.inv hi)

theorem decideBits_behave (n v : Nat) (s : State) : BitsBehave s (decideBits n v s) := by
  induction n generalizing v s with
  | zero => exact .refl
  | succ n ih =>
    have hfirst := decideBit_behaves (by decide : equiprobable ≤ 255) s
    rw [decideBits]
    generalize decideBit equiprobable s = first at hfirst ⊢
    cases first with
    | bit b u => exact .after hfirst (ih _ u)
    | underflow => exact .refl
    | stuck => exact hfirst

/-- RD_DECIDE, RD_DECIDE_EQ and RD_SIGNED after their checks. -/
theorem deciding_behaves (i : Instr) {prob : Nat} (hp : prob ≤ 255) (result : Bool → Word)
    (s : State) : Behaves s (deciding i prob result s) := by
  have hdecision := decideBit_behaves hp s
  rw [deciding]
  generalize decideBit prob s = decided at hdecision ⊢
  cases decided with
  | bit b u => exact .tail hdecision (.result _)
  | underflow => exact .raised s _ _
  | stuck => exact hdecision

/-- RD_BITS after its checks. -/
theorem bitsCommand_behaves (i : Instr) (n : Nat) (s : State) :
    Behaves s (bitsCommand i n s) := by
  have hrun := decideBits_behave n 0 s
  rw [bitsCommand]
  generalize decideBits n 0 s = run at hrun ⊢
  cases run with
  | done v u => exact .tail hrun (.result _)
  | starved u => exact .tail hrun (.raise _ _)
  | stuck => exact hrun

/-- RD_INIT after its checks. -/
theorem initDecoder_behaves (i : Instr) (s : State) : Behaves s (initDecoder i s) := by
  have hstart : Updates s ((s.withCoder 0#32 255#8 (-8#4)).withBsPos 0#32) :=
    updates_decoder rfl fun _ => by simp
  unfold initDecoder
  split
  · exact .raised s _ _
  · split
    · rename_i hfill
      exact (hstart.trans (refill_updates hfill)).tail (.rdValid true)
    · exact .raised s _ _

/-- RD_RESTORE: RANGE takes a SNAP_RANGE of at least 128 (40_range_decoder.md R76). -/
theorem execRdRestore_behaves (s : State) : Behaves s (execRdRestore s) := by
  refine .checked _ ?_
  split
  · exact .raised s _ _
  · exact .tail (.single (.coder _ _ fun _ => by omega)) (.rdValid true)

/-- IP_FILTER: IP_FILT takes 0, 1 or 2 (42_intra_prediction.md R105). -/
theorem execIpFilter_behaves (size : BlockSize) (c : Component) (mode : BitVec 6) (s : State) :
    Behaves s (execIpFilter size c mode s) := by
  refine .checked _ ?_
  split
  · split
    · exact .tail (.single (.ref _)) (.ipFilt (by decide))
    · exact .tail (.single (.ref _)) (.ipFilt (by decide))
  · exact .single (.ipFilt (by decide))

/-- Every command but SOFT_RESET: one arm per constructor, its checks first, then its effect. -/
theorem exec_behaves {i : Instr} (hi : i ≠ .softReset) (s : State) : Behaves s (exec i s) := by
  cases i with
  | softReset => exact absurd rfl hi
  | nop =>
    rw [exec, execNop]
    exact .checked _ .refl
  | rdInit =>
    rw [exec, execRdInit]
    exact .checked _ (initDecoder_behaves _ s)
  | rdDecide prob =>
    rw [exec, execRdDecide]
    exact .checked _ (.needsDecoder _ (deciding_behaves _ (Nat.le_of_lt_succ prob.isLt) _ s))
  | rdDecideEq =>
    rw [exec, execRdDecideEq]
    exact .checked _ (.needsDecoder _ (deciding_behaves _ (by decide) _ s))
  | rdBits n =>
    rw [exec, execRdBits]
    exact .checked _ (.needsDecoder _ (bitsCommand_behaves _ _ s))
  | rdSigned v =>
    rw [exec, execRdSigned]
    exact .checked _ (.needsDecoder _ (deciding_behaves _ (by decide) _ s))
  | rdSave =>
    rw [exec, execRdSave]
    exact .checked _ (.needsDecoder _ (.update (.snap _ _ _)))
  | rdRestore => exact execRdRestore_behaves s
  | itDct size c =>
    rw [exec, execItDct]
    exact .checked _ (.update (.res _))
  | itDst4 c =>
    rw [exec, execItDst4]
    exact .checked _ (.update (.res _))
  | itSkip size c rot =>
    rw [exec, execItSkip]
    exact .checked _ (.update (.res _))
  | itBypass size c rot =>
    rw [exec, execItBypass]
    exact .checked _ (.update (.res _))
  | ipSubst size c =>
    rw [exec, execIpSubst]
    exact .checked _ (.update (.ref _))
  | ipFilter size c mode => exact execIpFilter_behaves size c mode s
  | ipPlanar size c =>
    rw [exec, execIpPlanar]
    exact .checked _ (.update (.pred _))
  | ipDc size c nf =>
    rw [exec, execIpDc]
    exact .checked _ (.update (.pred _))
  | ipAng size c nf mode =>
    rw [exec, execIpAng]
    exact .checked _ (.update (.pred _))
  | ipRecon size c =>
    rw [exec, execIpRecon]
    exact .checked _ (.update (.out _))

theorem exec_updates {i : Instr} (hi : i ≠ .softReset) {s t : State} (h : exec i s = .next t) :
    Updates s t := by
  have hb := exec_behaves hi s
  rwa [h] at hb

/-! ### The invariant -/

/-- The registers' reset values (10_state.md R30) satisfy the invariant, with any memory in
canonical form. -/
theorem inv_of_reset_values {s : State} (hrange : s.range = 255#8) (hbdY : s.bdY = 8#4)
    (hbdC : s.bdC = 8#4) (hfault : s.fault = 0#8) (hfilt : s.ipFilt = 0#2)
    (hmem : Memory.wf s.mem = true) : s.Inv where
  range_ge := by rw [hrange]; decide
  bdY_ge := by rw [hbdY]; decide
  bdC_ge := by rw [hbdC]; decide
  fault_le := by rw [hfault]; decide
  ipFilt_le := by rw [hfilt]; decide
  mem_wf := hmem

theorem softReset_inv {s : State} (hi : s.Inv) : s.softReset.Inv :=
  inv_of_reset_values rfl rfl rfl rfl rfl hi.mem_wf

theorem hardReset_inv {s : State} (hi : s.Inv) : s.hardReset.Inv :=
  inv_of_reset_values rfl rfl rfl rfl rfl hi.mem_wf

/-- The outcome is a next state, and that state has the invariant. -/
def KeepsGoing (o : StepOutcome) : Prop := ∃ t, o = .next t ∧ t.Inv

theorem KeepsGoing.of_behaves {s : State} (hi : s.Inv) {o : StepOutcome} (h : Behaves s o) :
    KeepsGoing o := by
  cases o with
  | next t => exact ⟨t, rfl, Updates.inv h hi⟩
  | fault r => exact absurd hi h
  | refused r => exact h.elim

theorem exec_keepsGoing (i : Instr) {s : State} (hi : s.Inv) : KeepsGoing (exec i s) := by
  by_cases hreset : i = .softReset
  · subst hreset
    exact ⟨_, rfl, softReset_inv hi⟩
  · exact .of_behaves hi (exec_behaves hreset s)

theorem writeCommand_keepsGoing (w : Word) {s : State} (hi : s.Inv) :
    KeepsGoing (writeCommand s w) := by
  cases hw : decode w with
  | ok i =>
    rw [writeCommand_legal hw]
    exact exec_keepsGoing i hi
  | error e =>
    rw [writeCommand_illegal hw]
    split
    · exact ⟨s, rfl, hi⟩
    · exact .of_behaves hi (.raised s _ w)

/-- A host write to a register other than CMD: CFG stores bit depths of at least 8
(10_state.md R19), the rest of the invariant is about registers the host cannot write. -/
theorem writeReg_inv (data : Word) (r : Reg) {s : State} (hi : s.Inv) :
    (writeReg s data r).Inv := by
  cases r with
  | cfg =>
    have hstored : ∀ d, 8 ≤ (storedDepth d).toNat := fun d => by
      rw [storedDepth_toNat]
      exact le_max_left 8 _
    exact { hi with bdY_ge := hstored _, bdC_ge := hstored _ }
  | _ => exact { hi with }

theorem hostWrite_keepsGoing (index : RegIndex) (data : Word) {s : State} (hi : s.Inv) :
    KeepsGoing (hostWrite s index data) := by
  by_cases hcmd : index = 0#13
  · subst hcmd
    rw [hostWrite_cmd]
    exact writeCommand_keepsGoing data hi
  · rw [hostWrite_other hcmd]
    exact ⟨_, rfl, writeReg_inv data _ hi⟩

theorem busEvent_keepsGoing (e : BusEvent) {s : State} (hi : s.Inv) :
    KeepsGoing (busEvent s e) := by
  cases e with
  | write index data => exact hostWrite_keepsGoing index data hi
  | read index => exact ⟨_, rfl, { hi with }⟩
  | memWrite a b => exact ⟨_, rfl, { hi with mem_wf := Memory.wf_withMemByte s a b hi.mem_wf }⟩
  | hardReset => exact ⟨_, rfl, hardReset_inv hi⟩

/-- A step from a state with the invariant completes and keeps the invariant. -/
theorem step_keepsGoing {s : State} (hi : s.Inv) : KeepsGoing (step s) := by
  cases hb : s.bus with
  | nil => exact ⟨s, step_idle hb, hi⟩
  | cons e rest =>
    rw [step_event hb]
    exact busEvent_keepsGoing e (s := s.withBus rest) { hi with }

theorem step_inv {s t : State} (hi : s.Inv) (hstep : step s = .next t) : t.Inv := by
  obtain ⟨u, hu, hinv⟩ := step_keepsGoing hi
  cases hstep.symm.trans hu
  exact hinv

theorem reaches_inv {s t : State} (hi : s.Inv) (h : Reaches s t) : t.Inv := by
  induction h with
  | refl => exact hi
  | step _ hstep ih => exact step_inv ih hstep

/-! ### The obligations -/

/-- Settles O56: each register holds its reset value, and the memory lists nothing. -/
theorem resetSatisfiesInvariant : Obligations.ResetSatisfiesInvariant :=
  inv_of_reset_values rfl rfl rfl rfl rfl Memory.wf_reset

/-- Settles O48: the read completes by `step_read`, and each index selects its register. -/
theorem controlRegistersReadAsMapped : Obligations.ControlRegistersReadAsMapped := by
  intro s index rest hb
  refine ⟨_, step_read hb, rfl, ?cmd, ?status, ?result, ?faultInfo, ?cfg, ?bsBase, ?bsLen, ?bsPos,
    ?rdValue, ?rdRange, ?rdCount, ?snapValue, ?snapRange, ?snapCount, ?reserved⟩
  case reserved => exact fun h => congrArg (readReg s) (regAt_reserved h)
  all_goals rintro rfl
  case status => exact statusWord_toNat s
  case cfg => exact cfgWord_toNat s
  case rdRange => exact rdRange_read_toNat s
  case rdCount => exact rdCount_read_toInt s
  case snapRange => exact snapRange_read_toNat s
  case snapCount => exact snapCount_read_toInt s
  all_goals rfl

/-- Settles O49: the index selects the entry, and the word read is the entry extended. -/
theorem buffersReadAsMapped : Obligations.BuffersReadAsMapped := by
  intro s t index rest hb hstep
  refine ⟨fun x hx y hy => ⟨fun h => ?_, fun h => ?_, fun h => ?_, fun h => ?_⟩, fun i hi h => ?_⟩
  · rw [hostData_of_read hb hstep (regAt_d (k := y * 32 + x) (by omega) (by omega))]
    exact BitVec.toInt_signExtend_of_le (by decide)
  · rw [hostData_of_read hb hstep (regAt_res (k := y * 32 + x) (by omega) (by omega))]
    exact BitVec.toInt_signExtend_of_le (by decide)
  · rw [hostData_of_read hb hstep (regAt_pred (k := y * 32 + x) (by omega) (by omega))]
    exact congrArg Nat.cast (BitVec.toNat_setWidth_of_le (by decide))
  · rw [hostData_of_read hb hstep (regAt_out (k := y * 32 + x) (by omega) (by omega))]
    exact congrArg Nat.cast (BitVec.toNat_setWidth_of_le (by decide))
  · rw [hostData_of_read hb hstep (regAt_ref hi h)]
    exact refWord_toNat _

/-- Settles O50: each index selects its register, which takes the data narrowed. -/
theorem controlRegisterWrites : Obligations.ControlRegisterWrites := by
  intro s index data rest hb
  refine ⟨?_, ?_, ?_, ?_, ?_, ?_, ?_⟩ <;> rintro rfl
  · refine ⟨_, step_write hb (r := .cfg) rfl (by decide), ?_, ?_, ?_, rfl⟩
    · exact (storedDepth_field data 0).trans (by simp)
    · exact storedDepth_field data 4
    · exact getLsbD_eq_decide data 8
  · exact step_write hb (r := .bsBase) rfl (by decide)
  · exact step_write hb (r := .bsLen) rfl (by decide)
  · exact step_write hb (r := .bsPos) rfl (by decide)
  · exact step_write hb (r := .snapValue) rfl (by decide)
  · rw [← extractLsb'_zero]
    exact step_write hb (r := .snapRange) rfl (by decide)
  · rw [← extractLsb'_zero]
    exact step_write hb (r := .snapCount) rfl (by decide)

/-- Settles O51: the index selects the entry, and the write replaces that entry alone. -/
theorem bufferWritesStoreOneEntry : Obligations.BufferWritesStoreOneEntry := by
  intro s index data rest hb k
  have havail : data.getLsbD 16 = decide (data.toNat / 65536 % 2 = 1) := getLsbD_eq_decide data 16
  rw [← extractLsb'_zero, ← havail]
  refine ⟨fun hk hi => ?_, fun hk hi => ?_, fun hk hi => ?_, fun hk hi => ?_⟩
  · exact ⟨_, step_write hb (regAt_d hk hi) nofun, rfl, get_set_stores_one _ _ hk⟩
  · exact ⟨_, step_write hb (regAt_res hk hi) nofun, rfl, get_set_stores_one _ _ hk⟩
  · exact ⟨_, step_write hb (regAt_pred hk hi) nofun, rfl, get_set_stores_one _ _ hk⟩
  · exact ⟨_, step_write hb (regAt_ref hk hi) nofun, rfl, get_set_stores_one _ _ hk⟩

/-- Settles O52: every such index selects a register that ignores the write. -/
theorem ignoredWritesChangeNothing : Obligations.IgnoredWritesChangeNothing := by
  intro s index data rest hb h
  have hignores := ignoresWrites_regAt h
  rw [step_write hb rfl fun hcmd => by simp [hcmd, ignoresWrites] at hignores,
    writeReg_of_ignoresWrites _ data hignores]
  rfl

/-- Settles O54: the writes of the commands leave these fields alone, and SOFT_RESET writes CFG
among them only. -/
theorem commandsNeverWriteMemory : Obligations.CommandsNeverWriteMemory := by
  intro i s t h
  by_cases hreset : i = .softReset
  · subst hreset
    cases h
    exact ⟨rfl, rfl, rfl, rfl, rfl, absurd rfl⟩
  · have hkept := (exec_updates hreset h).kept
    simp only [keptByCommands, Prod.mk.injEq] at hkept
    obtain ⟨hmem, hd, hbus, hdata, hresets, hcfg⟩ := hkept
    exact ⟨hmem, hd, hbus, hdata, hresets, fun _ => hcfg⟩

/-- Settles O57: by the move at the head of the queue (`step_keepsGoing`); for a command, by the
writes it makes (`exec_behaves`), of which only those of RD_INIT, RD_RESTORE, a decision and
SOFT_RESET touch RANGE. -/
theorem stepKeepsInvariant : Obligations.StepKeepsInvariant :=
  fun _ _ hi hstep => step_inv hi hstep

/-- Settles O58: every state of the run has the invariant, and from it a step completes. -/
theorem runsNeverStop : Obligations.RunsNeverStop := by
  intro s t hi hreaches
  obtain ⟨u, hu, -⟩ := step_keepsGoing (reaches_inv hi hreaches)
  exact ⟨u, hu⟩

end Sys2Proof.Proofs.RegisterState
end

section
/-!
PROOFS. The statements about a write to CMD (20_memory.md R42) and about the bitstream memory: no
command reads a byte outside the window of BS_LEN bytes at BS_BASE (40_range_decoder.md R78).
-/

namespace Sys2Proof.Proofs.MemoryAccess

open Sys2Proof.Machine

/-- Settles O6: the step takes the move off the queue, register index 0 is CMD, and a legal word
runs its command. -/
theorem stepRunsDecodedCommand : Obligations.StepRunsDecodedCommand := by
  intro s w rest i hb hdecode
  calc step s = hostWrite (s.withBus rest) 0#13 w := step_event hb
    _ = writeCommand (s.withBus rest) w := hostWrite_cmd _ w
    _ = exec i (s.withBus rest) := writeCommand_legal hdecode

/-! ### Another memory in place of the state's

The statement compares a run with the same run on another memory `m`. Each operation is shown to
commute with putting `m` in place of the state's memory: those of the RD unit that fetch a byte when
`m` agrees on the window, the others for every `m`. -/

/-- The state with the memory `m`. -/
def withMem (m : List Host.Cell) (s : State) : State := { s with mem := m }

/-- The memory `m` put into the state an outcome answers. -/
def outcomeWithMem (m : List Host.Cell) : StepOutcome → StepOutcome
  | .next t => .next (withMem m t)
  | .fault r => .fault r
  | .refused r => .refused r

/-- The memory `m` put into the state a decision leaves. -/
def decidedWithMem (m : List Host.Cell) : Decided → Decided
  | .bit b t => .bit b (withMem m t)
  | .underflow => .underflow
  | .stuck => .stuck

/-- The memory `m` put into the state a run of decisions leaves. -/
def bitsWithMem (m : List Host.Cell) : BitsRun → BitsRun
  | .done v t => .done v (withMem m t)
  | .starved t => .starved (withMem m t)
  | .stuck => .stuck

/-- The memory `m` holds the bytes of the state's window (40_range_decoder.md R78). -/
def AgreesOnWindow (m : List Host.Cell) (s : State) : Prop :=
  ∀ p, p < s.bsLen.toNat → Spec.windowByte (withMem m s) p = Spec.windowByte s p

/-- The effect `run` does the same from `s` with the memory `m` in place of its own. -/
def MemIndependent (m : List Host.Cell) (s : State) (run : State → StepOutcome) : Prop :=
  run (withMem m s) = outcomeWithMem m (run s)

section Commuting

variable {m : List Host.Cell} {s : State}

/-! ### The operations that fetch no byte -/

theorem renorm_withMem (m : List Host.Cell) (s : State) (b : Bool) (value : BitVec 32)
    (rng : Int) :
    renorm (withMem m s) b value rng = decidedWithMem m (renorm s b value rng) := by
  rw [renorm, renorm]
  split
  · rfl
  · rfl

theorem decideFilled_withMem (m : List Host.Cell) (prob : Nat) (s : State) :
    decideFilled prob (withMem m s) = decidedWithMem m (decideFilled prob s) := by
  have htop : topOf (withMem m s) = topOf s := rfl
  rw [decideFilled, decideFilled, htop, apply_ite (decidedWithMem m), renorm_withMem,
    renorm_withMem]
  rfl

/-! ### The operations that fetch bytes of the window -/

/-- The byte of a refill within the window is one of the window's (20_memory.md R38). -/
theorem nextByte_withMem (hm : AgreesOnWindow m s) (hpos : s.bsPos < s.bsLen) :
    nextByte (withMem m s) = nextByte s := by
  have hbyte : ∀ u : State, Spec.windowByte u u.bsPos.toNat = (nextByte u).toNat := fun u => by
    simp [Spec.windowByte, nextByte]
  apply BitVec.eq_of_toNat_eq
  rw [← hbyte, ← hbyte]
  exact hm _ hpos

theorem refill_withMem (hm : AgreesOnWindow m s) :
    refill (withMem m s) = (refill s).map (withMem m) := by
  cases hr : refill s with
  | none =>
    have hend : s.bsLen ≤ s.bsPos := refill_eq_none.1 hr
    exact refill_eq_none.2 hend
  | some t =>
    obtain ⟨hpos, rfl⟩ := refill_eq_some.1 hr
    refine refill_eq_some.2 ⟨hpos, ?_⟩
    rw [nextByte_withMem hm hpos]
    rfl

theorem decideBit_withMem (hm : AgreesOnWindow m s) (prob : Nat) :
    decideBit prob (withMem m s) = decidedWithMem m (decideBit prob s) := by
  rcases lt_or_ge s.count.toInt 0 with hneg | hnonneg
  · have hrefill := refill_withMem hm
    cases hr : refill s with
    | none =>
      have hend : s.bsLen ≤ s.bsPos := refill_eq_none.1 hr
      rw [decideBit_starved hneg hend, decideBit_starved (s := withMem m s) hneg hend]
      rfl
    | some u =>
      rw [hr] at hrefill
      rw [decideBit_refilled hneg hr, decideBit_refilled (s := withMem m s) hneg hrefill]
      exact decideFilled_withMem m prob u
  · rw [decideBit_filled hnonneg, decideBit_filled (s := withMem m s) hnonneg]
    exact decideFilled_withMem m prob s

/-- A decision keeps the window and the memory. -/
theorem AgreesOnWindow.of_decideBit (hm : AgreesOnWindow m s) {t : State} {prob : Nat} {b : Bool}
    (h : decideBit prob s = .bit b t) : AgreesOnWindow m t := by
  rw [decideBit_frame h]
  exact hm

theorem decideBits_withMem (n v : Nat) (hm : AgreesOnWindow m s) :
    decideBits n v (withMem m s) = bitsWithMem m (decideBits n v s) := by
  induction n generalizing v s with
  | zero => rfl
  | succ n ih =>
    rw [decideBits, decideBits, decideBit_withMem hm]
    cases hd : decideBit equiprobable s with
    | bit b t => exact ih _ (hm.of_decideBit hd)
    | underflow => rfl
    | stuck => rfl

/-! ### The commands -/

/-- Checks (1) and (2) of 40_range_decoder.md R64 read FAULT only. -/
theorem MemIndependent.checked {run : State → StepOutcome} (i : Instr)
    (h : MemIndependent m s run) : MemIndependent m s (checked i · run) := by
  rw [MemIndependent, Machine.checked, Machine.checked, h, apply_ite (outcomeWithMem m),
    apply_ite (outcomeWithMem m)]
  rfl

/-- Check (3) of 40_range_decoder.md R64 reads RD_VALID only. -/
theorem MemIndependent.needsDecoder {run : State → StepOutcome} (i : Instr)
    (h : MemIndependent m s run) : MemIndependent m s (needsDecoder i · run) := by
  rw [MemIndependent, Machine.needsDecoder, Machine.needsDecoder, h, apply_ite (outcomeWithMem m)]
  rfl

/-- RD_INIT after its checks: its refill is at BS_POS = 0 of the same window. -/
theorem initDecoder_memIndependent (i : Instr) (hm : AgreesOnWindow m s) :
    MemIndependent m s (initDecoder i) := by
  have hrefill := refill_withMem (s := (s.withCoder 0#32 255#8 (-8#4)).withBsPos 0#32) hm
  change refill (((withMem m s).withCoder 0#32 255#8 (-8#4)).withBsPos 0#32) = _ at hrefill
  rw [MemIndependent, initDecoder, initDecoder, hrefill, apply_ite (outcomeWithMem m)]
  cases refill ((s.withCoder 0#32 255#8 (-8#4)).withBsPos 0#32) with
  | none => rfl
  | some u => rfl

/-- RD_DECIDE, RD_DECIDE_EQ and RD_SIGNED after their checks. -/
theorem deciding_memIndependent (i : Instr) (prob : Nat) (result : Bool → Word)
    (hm : AgreesOnWindow m s) : MemIndependent m s (deciding i prob result) := by
  rw [MemIndependent, deciding, deciding, decideBit_withMem hm]
  cases decideBit prob s with
  | bit b u => rfl
  | underflow => rfl
  | stuck => rfl

/-- RD_BITS after its checks. -/
theorem bitsCommand_memIndependent (i : Instr) (n : Nat) (hm : AgreesOnWindow m s) :
    MemIndependent m s (bitsCommand i n) := by
  rw [MemIndependent, bitsCommand, bitsCommand, decideBits_withMem n 0 hm]
  cases decideBits n 0 s with
  | done v u => rfl
  | starved u => rfl
  | stuck => rfl

/-- RD_RESTORE reads the snapshot (40_range_decoder.md R76). -/
theorem execRdRestore_memIndependent (m : List Host.Cell) (s : State) :
    MemIndependent m s execRdRestore := by
  refine .checked _ ?_
  rw [MemIndependent, apply_ite (outcomeWithMem m)]
  rfl

/-- IP_FILTER reads REF and CFG (42_intra_prediction.md R105). -/
theorem execIpFilter_memIndependent (size : BlockSize) (c : Component) (mode : BitVec 6)
    (m : List Host.Cell) (s : State) : MemIndependent m s (execIpFilter size c mode) := by
  refine .checked _ ?_
  rw [MemIndependent, apply_ite (outcomeWithMem m), apply_ite (outcomeWithMem m)]
  rfl

/-- Every command: one arm per constructor, its checks first, then its effect. An effect that
reads registers and buffers only does not mention the memory, so both sides are one term. -/
theorem exec_memIndependent (i : Instr) (hm : AgreesOnWindow m s) :
    MemIndependent m s (exec i) := by
  cases i with
  | nop => exact .checked _ rfl
  | rdInit => exact .checked _ (initDecoder_memIndependent _ hm)
  | rdDecide prob => exact .checked _ (.needsDecoder _ (deciding_memIndependent _ _ _ hm))
  | rdDecideEq => exact .checked _ (.needsDecoder _ (deciding_memIndependent _ _ _ hm))
  | rdBits n => exact .checked _ (.needsDecoder _ (bitsCommand_memIndependent _ _ hm))
  | rdSigned v => exact .checked _ (.needsDecoder _ (deciding_memIndependent _ _ _ hm))
  | rdSave => exact .checked _ (.needsDecoder _ rfl)
  | rdRestore => exact execRdRestore_memIndependent m s
  | itDct size c => exact .checked _ rfl
  | itDst4 c => exact .checked _ rfl
  | itSkip size c rot => exact .checked _ rfl
  | itBypass size c rot => exact .checked _ rfl
  | ipSubst size c => exact .checked _ rfl
  | ipFilter size c mode => exact execIpFilter_memIndependent size c mode m s
  | ipPlanar size c => exact .checked _ rfl
  | ipDc size c nf => exact .checked _ rfl
  | ipAng size c nf mode => exact .checked _ rfl
  | ipRecon size c => exact .checked _ rfl
  | softReset => rfl

end Commuting

/-- Settles O55: only a refill fetches a byte, and it fetches one of the window
(`nextByte_withMem`). -/
theorem bytesOutsideWindowAreNotRead : Obligations.BytesOutsideWindowAreNotRead := by
  intro i s t m hm hexec
  calc exec i (withMem m s) = outcomeWithMem m (exec i s) := exec_memIndependent i hm
    _ = .next (withMem m t) := congrArg (outcomeWithMem m) hexec

end Sys2Proof.Proofs.MemoryAccess
end

section
/-!
PROOFS. The statements about command words (30_encoding.md): the decoder and the encoder are
inverse to each other (R48 to R55), and the words that decode are those that select a row of the
opcode map (R56, R57).
-/

namespace Sys2Proof.Proofs.Encoding

open Sys2Proof.Machine

/-! ### The fields of a word -/

section Fields

variable {k lo len start : Nat} {w w' mask pattern : Word}

theorem getLsbD_field (v : BitVec k) (lo j : Nat) :
    (field v lo).getLsbD j = (decide (j < 32) && decide (lo ≤ j) && v.getLsbD (j - lo)) := by
  by_cases hj : j < 32
  · by_cases hlo : lo ≤ j
    · simp [field, hj, hlo, not_lt.2 hlo]
    · simp [field, hj, hlo, not_le.1 hlo]
  · simp [field, hj]

/-- The bits of a word that a field occupies are the field. -/
@[simp] theorem extractLsb'_field_same (v : BitVec k) (h : lo + k ≤ 32) :
    (field v lo).extractLsb' lo k = v := by
  apply BitVec.eq_of_getLsbD_eq
  intro j hj
  have hlt : lo + j < 32 := by omega
  rw [BitVec.getLsbD_extractLsb', getLsbD_field]
  simp [hj, hlt]

/-- The bits of a word apart from those a field occupies are 0. -/
@[simp] theorem extractLsb'_field_disjoint (v : BitVec k)
    (h : lo + k ≤ start ∨ start + len ≤ lo) :
    (field v lo).extractLsb' start len = 0#len := by
  apply BitVec.eq_of_getLsbD_eq
  intro j hj
  rw [BitVec.getLsbD_extractLsb', getLsbD_field]
  rcases h with hbelow | habove
  · simp [BitVec.getLsbD_of_ge v (start + j - lo) (by omega)]
  · simp [show ¬ lo ≤ start + j by omega]

/-- Words agree on a run of bits when they agree on both parts of it. -/
theorem extractLsb'_add_eq_iff :
    w.extractLsb' start (k + len) = w'.extractLsb' start (k + len) ↔
      w.extractLsb' start k = w'.extractLsb' start k ∧
      w.extractLsb' (start + k) len = w'.extractLsb' (start + k) len := by
  refine ⟨fun h => ⟨BitVec.eq_of_getLsbD_eq fun j hj => ?low,
    BitVec.eq_of_getLsbD_eq fun j hj => ?high⟩,
    fun ⟨hlow, hhigh⟩ => BitVec.eq_of_getLsbD_eq fun j hj => ?run⟩
  case low =>
    have hlt : j < k + len := by omega
    simpa [hj, hlt] using congrArg (·.getLsbD j) h
  case high => simpa [hj, Nat.add_assoc] using congrArg (·.getLsbD (k + j)) h
  case run =>
    by_cases hjk : j < k
    · simpa [hj, hjk] using congrArg (·.getLsbD j) hlow
    · obtain ⟨i, rfl⟩ := Nat.exists_eq_add_of_le (not_lt.1 hjk)
      have hi : i < len := by omega
      simpa [hj, hi, Nat.add_assoc] using congrArg (·.getLsbD i) hhigh

/-- A run of bits is 0 when both parts of it are. -/
theorem extractLsb'_add_eq_zero : w.extractLsb' start (k + len) = 0#(k + len) ↔
    w.extractLsb' start k = 0#k ∧ w.extractLsb' (start + k) len = 0#len := by
  simpa only [BitVec.extractLsb'_zero] using extractLsb'_add_eq_iff (w := w) (w' := 0#32)

/-- Words with the same opcode and the same 24 bits below it are equal (30_encoding.md R48). -/
theorem word_ext (hopc : opcodeOf w = opcodeOf w')
    (hlow : w.extractLsb' 0 24 = w'.extractLsb' 0 24) : w = w' := by
  have h : w.extractLsb' 0 32 = w'.extractLsb' 0 32 := extractLsb'_add_eq_iff.2 ⟨hlow, hopc⟩
  rwa [BitVec.extractLsb'_eq_self, BitVec.extractLsb'_eq_self] at h

theorem extractLsb'_one (w : Word) (j : Nat) :
    w.extractLsb' j 1 = BitVec.ofBool (w.getLsbD j) := by
  apply BitVec.eq_of_getLsbD_eq
  intro i hi
  obtain rfl : i = 0 := by omega
  simp

/-- A run of bits that the mask covers is the pattern's. -/
theorem extractLsb'_of_masked (h : w &&& mask = pattern) (start len : Nat)
    (hmask : mask.extractLsb' start len = BitVec.allOnes len) :
    w.extractLsb' start len = pattern.extractLsb' start len := by
  rw [← h, BitVec.extractLsb'_and, hmask, BitVec.and_allOnes]

end Fields

/-! ### The operands' fields (30_encoding.md R55) -/

theorem blockSizeOf_eq_some {x : BitVec 3} {size : BlockSize} :
    blockSizeOf x = some size ↔ x = log2nField size := by
  cases size <;> revert x <;> decide

theorem cField_eq_ofBool {c : Component} {b : Bool} :
    cField c = BitVec.ofBool b ↔ componentOf b = c := by
  cases c <;> cases b <;> decide

theorem limited_eq_ok {ok : Bool} {i j : Instr} :
    limited ok i = .ok j ↔ ok = true ∧ i = j := by
  cases ok <;> simp [limited]

/-! ### Formats Z, P, B and S: at most one operand, at bit 0 (30_encoding.md R49 to R52) -/

section LowOperand

variable {w : Word} {opc : BitVec 8} {k n : Nat}

theorem opcodeOf_wordZ (opc : BitVec 8) : opcodeOf (wordZ opc) = opc := by
  simp [opcodeOf, wordZ]

/-- A word with the operand `v` under its opcode. -/
theorem opcodeOf_operand (opc : BitVec 8) (v : BitVec k) (hk : k ≤ 24) :
    opcodeOf (field opc 24 ||| field v 0) = opc := by
  simp [opcodeOf, BitVec.extractLsb'_or, hk]

theorem operand_field (opc : BitVec 8) (v : BitVec k) (hk : k ≤ 24) :
    (field opc 24 ||| field v 0).extractLsb' 0 k = v := by
  have h : k ≤ 32 := by omega
  simp [BitVec.extractLsb'_or, hk, h]

theorem operand_reserved (opc : BitVec 8) (v : BitVec k) (h : k + n ≤ 24) :
    (field opc 24 ||| field v 0).extractLsb' k n = 0#n := by
  simp [BitVec.extractLsb'_or, h]

theorem eq_wordZ (hopc : opcodeOf w = opc) (hres : w.extractLsb' 0 24 = 0#24) : w = wordZ opc :=
  word_ext (by rw [hopc, opcodeOf_wordZ]) (by simp [hres, wordZ])

/-- A word whose bits between operand and opcode are 0 is the word of its opcode and operand. -/
theorem eq_operand (hkn : k + n = 24) (hopc : opcodeOf w = opc)
    (hres : w.extractLsb' k n = 0#n) :
    w = field opc 24 ||| field (w.extractLsb' 0 k) 0 := by
  have hk : k ≤ 24 := by omega
  refine word_ext (by rw [hopc, opcodeOf_operand _ _ hk]) ?_
  rw [← hkn]
  refine extractLsb'_add_eq_iff.2 ⟨?_, ?_⟩
  · rw [hkn, operand_field _ _ hk]
  · rw [Nat.zero_add, hres, hkn, operand_reserved _ _ hkn.le]

theorem formatZ_wordZ (opc : BitVec 8) (i : Instr) : formatZ (wordZ opc) i = .ok i :=
  if_pos (by simp [wordZ])

variable (opc)

theorem opcodeOf_wordP (prob : BitVec 8) : opcodeOf (wordP opc prob) = opc :=
  opcodeOf_operand opc prob (by decide)

theorem opcodeOf_wordB (v : BitVec 6) : opcodeOf (wordB opc v) = opc :=
  opcodeOf_operand opc v (by decide)

theorem opcodeOf_wordS (v : BitVec 16) : opcodeOf (wordS opc v) = opc :=
  opcodeOf_operand opc v (by decide)

theorem formatP_wordP (prob : BitVec 8) (f : BitVec 8 → Except DecodeError Instr) :
    formatP (wordP opc prob) f = f prob := by
  rw [formatP, wordP, if_pos (operand_reserved _ _ (by decide)), operand_field _ _ (by decide)]

theorem formatB_wordB (v : BitVec 6) (f : BitVec 6 → Except DecodeError Instr) :
    formatB (wordB opc v) f = f v := by
  rw [formatB, wordB, if_pos (operand_reserved _ _ (by decide)), operand_field _ _ (by decide)]

theorem formatS_wordS (v : BitVec 16) (f : BitVec 16 → Except DecodeError Instr) :
    formatS (wordS opc v) f = f v := by
  rw [formatS, wordS, if_pos (operand_reserved _ _ (by decide)), operand_field _ _ (by decide)]

variable {opc} {i : Instr}

theorem formatZ_eq_ok {j : Instr} (hopc : opcodeOf w = opc) (h : formatZ w i = .ok j) :
    w = wordZ opc ∧ i = j := by
  unfold formatZ at h
  split at h
  next hres => exact ⟨eq_wordZ hopc hres, Except.ok.inj h⟩
  next => cases h

theorem formatP_eq_ok {f : BitVec 8 → Except DecodeError Instr} (hopc : opcodeOf w = opc)
    (h : formatP w f = .ok i) : ∃ prob, w = wordP opc prob ∧ f prob = .ok i := by
  unfold formatP at h
  split at h
  next hres => exact ⟨_, eq_operand rfl hopc hres, h⟩
  next => cases h

theorem formatB_eq_ok {ok : BitVec 6 → Bool} {command : BitVec 6 → Instr}
    (hopc : opcodeOf w = opc) (h : formatB w (fun n => limited (ok n) (command n)) = .ok i) :
    ∃ n, w = wordB opc n ∧ ok n = true ∧ command n = i := by
  unfold formatB at h
  split at h
  next hres => exact ⟨_, eq_operand rfl hopc hres, limited_eq_ok.1 h⟩
  next => cases h

theorem formatS_eq_ok {f : BitVec 16 → Except DecodeError Instr} (hopc : opcodeOf w = opc)
    (h : formatS w f = .ok i) : ∃ v, w = wordS opc v ∧ f v = .ok i := by
  unfold formatS at h
  split at h
  next hres => exact ⟨_, eq_operand rfl hopc hres, h⟩
  next => cases h

end LowOperand

/-! ### Formats T and I (30_encoding.md R53, R54) -/

section BlockOperands

variable {w : Word} {opc : BitVec 8} {size : BlockSize} {c : Component} {nf : Bool}
  {mode : BitVec 6}

/-- A word of format T is one of format I whose bits 10:5 are 0. -/
theorem wordT_eq_wordI (opc : BitVec 8) (size : BlockSize) (c : Component) (rot : Bool) :
    wordT opc size c rot = wordI opc size c rot 0#6 := by
  simp [wordT, wordI, field]

@[simp] theorem opcodeOf_wordI : opcodeOf (wordI opc size c nf mode) = opc := by
  simp [opcodeOf, wordI, BitVec.extractLsb'_or]

@[simp] theorem wordI_reserved : (wordI opc size c nf mode).extractLsb' 11 13 = 0#13 := by
  simp [wordI, BitVec.extractLsb'_or]

@[simp] theorem wordI_mode : (wordI opc size c nf mode).extractLsb' 5 6 = mode := by
  simp [wordI, BitVec.extractLsb'_or]

@[simp] theorem wordI_size : (wordI opc size c nf mode).extractLsb' 0 3 = log2nField size := by
  simp [wordI, BitVec.extractLsb'_or]

@[simp] theorem wordI_nf : (wordI opc size c nf mode).extractLsb' 4 1 = BitVec.ofBool nf := by
  simp [wordI, BitVec.extractLsb'_or]

@[simp] theorem wordI_c : (wordI opc size c nf mode).extractLsb' 3 1 = cField c := by
  simp [wordI, BitVec.extractLsb'_or]

theorem wordI_bit4 : (wordI opc size c nf mode).getLsbD 4 = nf := by
  rw [← BitVec.ofBool_eq_iff_eq, ← extractLsb'_one, wordI_nf]

theorem wordI_component : componentOf ((wordI opc size c nf mode).getLsbD 3) = c := by
  rw [← cField_eq_ofBool, ← extractLsb'_one, wordI_c]

/-- A word whose reserved bits are 0 and whose block size is legal is the word of its fields. -/
theorem eq_wordI (hopc : opcodeOf w = opc) (hres : w.extractLsb' 11 13 = 0#13)
    (hsize : blockSizeOf (w.extractLsb' 0 3) = some size) :
    w = wordI opc size (componentOf (w.getLsbD 3)) (w.getLsbD 4) (w.extractLsb' 5 6) := by
  refine word_ext (by rw [hopc, opcodeOf_wordI]) ?_
  refine (extractLsb'_add_eq_iff (k := 11) (len := 13)).2 ⟨?_, hres.trans wordI_reserved.symm⟩
  refine (extractLsb'_add_eq_iff (k := 5) (len := 6)).2 ⟨?_, wordI_mode.symm⟩
  refine (extractLsb'_add_eq_iff (k := 4) (len := 1)).2
    ⟨?_, (extractLsb'_one w 4).trans wordI_nf.symm⟩
  refine (extractLsb'_add_eq_iff (k := 3) (len := 1)).2
    ⟨?_, (extractLsb'_one w 3).trans ((cField_eq_ofBool.2 rfl).symm.trans wordI_c.symm)⟩
  exact (blockSizeOf_eq_some.1 hsize).trans wordI_size.symm

theorem formatI_wordI (opc : BitVec 8) (size : BlockSize) (c : Component) (nf : Bool)
    (mode : BitVec 6) (f : FieldsI → Except DecodeError Instr) :
    formatI (wordI opc size c nf mode) f = f ⟨size, c, nf, mode⟩ := by
  rw [formatI, if_pos wordI_reserved, wordI_size, blockSizeOf_eq_some.2 rfl, wordI_mode,
    wordI_bit4, wordI_component]

theorem formatT_wordT (opc : BitVec 8) (size : BlockSize) (c : Component) (rot : Bool)
    (f : FieldsT → Except DecodeError Instr) :
    formatT (wordT opc size c rot) f = f ⟨size, c, rot⟩ := by
  have hres : (wordI opc size c rot 0#6).extractLsb' 5 19 = 0#19 :=
    extractLsb'_add_eq_zero.2 ⟨wordI_mode, wordI_reserved⟩
  rw [formatT, wordT_eq_wordI, if_pos hres, wordI_size, blockSizeOf_eq_some.2 rfl, wordI_bit4,
    wordI_component]

theorem opcodeOf_wordT (opc : BitVec 8) (size : BlockSize) (c : Component) (rot : Bool) :
    opcodeOf (wordT opc size c rot) = opc := by
  rw [wordT_eq_wordI, opcodeOf_wordI]

theorem formatI_eq_ok {ok : FieldsI → Bool} {command : FieldsI → Instr} {i : Instr}
    (hopc : opcodeOf w = opc) (h : formatI w (fun f => limited (ok f) (command f)) = .ok i) :
    ∃ size c nf mode, w = wordI opc size c nf mode ∧
      ok ⟨size, c, nf, mode⟩ = true ∧ command ⟨size, c, nf, mode⟩ = i := by
  unfold formatI at h
  split at h
  next hres =>
    split at h
    next size hsize => exact ⟨size, _, _, _, eq_wordI hopc hres hsize, limited_eq_ok.1 h⟩
    next => cases h
  next => cases h

theorem formatT_eq_ok {ok : FieldsT → Bool} {command : FieldsT → Instr} {i : Instr}
    (hopc : opcodeOf w = opc) (h : formatT w (fun f => limited (ok f) (command f)) = .ok i) :
    ∃ size c rot, w = wordT opc size c rot ∧
      ok ⟨size, c, rot⟩ = true ∧ command ⟨size, c, rot⟩ = i := by
  unfold formatT at h
  split at h
  next hres =>
    split at h
    next size hsize =>
      obtain ⟨hmode, hreserved⟩ := (extractLsb'_add_eq_zero (k := 6) (len := 13)).1 hres
      refine ⟨size, _, _, ?_, limited_eq_ok.1 h⟩
      rw [wordT_eq_wordI, ← hmode]
      exact eq_wordI hopc hreserved hsize
    next => cases h
  next => cases h

end BlockOperands

/-! ### Decoding the word of a command -/

/-- Settles O2: the opcode selects the command's arm of the decoder, whose format gives the fields
back, and they keep the arm's limit. -/
theorem decodeOfEncode : Obligations.DecodeOfEncode := by
  intro i hi
  rw [decode]
  cases i with
  | nop | rdInit | rdDecideEq | rdSave | rdRestore | softReset =>
    rw [encode, opcodeOf_wordZ]
    exact formatZ_wordZ _ _
  | rdDecide prob =>
    rw [encode, opcodeOf_wordP]
    exact formatP_wordP _ _ _
  | rdBits n =>
    rw [encode, opcodeOf_wordB]
    exact (formatB_wordB _ _ _).trans (limited_eq_ok.2 ⟨hi, rfl⟩)
  | rdSigned v =>
    rw [encode, opcodeOf_wordS]
    exact formatS_wordS _ _ _
  | itDct | itDst4 =>
    rw [encode, opcodeOf_wordT]
    exact formatT_wordT _ _ _ _ _
  | itSkip | itBypass =>
    rw [encode, opcodeOf_wordT]
    exact (formatT_wordT _ _ _ _ _).trans (limited_eq_ok.2 ⟨hi, rfl⟩)
  | ipSubst | ipPlanar | ipDc | ipRecon =>
    rw [encode, opcodeOf_wordI]
    exact formatI_wordI _ _ _ _ _ _
  | ipFilter | ipAng =>
    rw [encode, opcodeOf_wordI]
    exact (formatI_wordI _ _ _ _ _ _).trans (limited_eq_ok.2 ⟨hi, rfl⟩)

/-! ### The command of a word that decodes -/

/-- An arm of format Z: the word is its command's. -/
theorem encode_of_formatZ {w : Word} {i j : Instr} {opc : BitVec 8} (hj : j.WellFormed)
    (hencode : encode j = wordZ opc) (hopc : opcodeOf w = opc) (h : formatZ w j = .ok i) :
    i.WellFormed ∧ encode i = w := by
  obtain ⟨rfl, rfl⟩ := formatZ_eq_ok hopc h
  exact ⟨hj, hencode⟩

/-- Settles O3: by the opcode, whose format determines the word from the fields it reads. -/
theorem encodeOfDecode : Obligations.EncodeOfDecode := by
  intro w i h
  have opcode {opc : BitVec 8} (hopc : (opcodeOf w).toNat = opc.toNat) : opcodeOf w = opc :=
    BitVec.eq_of_toNat_eq hopc
  unfold decode at h
  split at h
  next hopc => exact encode_of_formatZ (opc := 0x00#8) rfl rfl (opcode hopc) h
  next hopc => exact encode_of_formatZ (opc := 0x01#8) rfl rfl (opcode hopc) h
  next hopc =>
    obtain ⟨prob, rfl, ⟨⟩⟩ := formatP_eq_ok (opc := 0x02#8) (opcode hopc) h
    exact ⟨rfl, rfl⟩
  next hopc => exact encode_of_formatZ (opc := 0x03#8) rfl rfl (opcode hopc) h
  next hopc =>
    obtain ⟨n, rfl, hlimit, rfl⟩ := formatB_eq_ok (opc := 0x04#8) (opcode hopc) h
    exact ⟨hlimit, rfl⟩
  next hopc =>
    obtain ⟨v, rfl, ⟨⟩⟩ := formatS_eq_ok (opc := 0x05#8) (opcode hopc) h
    exact ⟨rfl, rfl⟩
  next hopc => exact encode_of_formatZ (opc := 0x06#8) rfl rfl (opcode hopc) h
  next hopc => exact encode_of_formatZ (opc := 0x07#8) rfl rfl (opcode hopc) h
  next hopc =>
    obtain ⟨size, c, rot, rfl, hrot, rfl⟩ := formatT_eq_ok (opc := 0x10#8) (opcode hopc) h
    obtain rfl : rot = false := by simpa using hrot
    exact ⟨rfl, rfl⟩
  next hopc =>
    obtain ⟨size, c, rot, rfl, hlimit, rfl⟩ := formatT_eq_ok (opc := 0x11#8) (opcode hopc) h
    obtain ⟨rfl, rfl⟩ : size = .n4 ∧ rot = false := by simpa using hlimit
    exact ⟨rfl, rfl⟩
  next hopc =>
    obtain ⟨size, c, rot, rfl, hlimit, rfl⟩ := formatT_eq_ok (opc := 0x12#8) (opcode hopc) h
    exact ⟨hlimit, rfl⟩
  next hopc =>
    obtain ⟨size, c, rot, rfl, hlimit, rfl⟩ := formatT_eq_ok (opc := 0x13#8) (opcode hopc) h
    exact ⟨hlimit, rfl⟩
  next hopc =>
    obtain ⟨size, c, nf, mode, rfl, hlimit, rfl⟩ := formatI_eq_ok (opc := 0x20#8) (opcode hopc) h
    obtain ⟨rfl, rfl⟩ : nf = false ∧ mode = 0#6 := by simpa using hlimit
    exact ⟨rfl, rfl⟩
  next hopc =>
    obtain ⟨size, c, nf, mode, rfl, hlimit, rfl⟩ := formatI_eq_ok (opc := 0x21#8) (opcode hopc) h
    obtain ⟨hnf, hmode⟩ := Bool.and_eq_true_iff.1 hlimit
    obtain rfl : nf = false := by simpa using hnf
    exact ⟨hmode, rfl⟩
  next hopc =>
    obtain ⟨size, c, nf, mode, rfl, hlimit, rfl⟩ := formatI_eq_ok (opc := 0x22#8) (opcode hopc) h
    obtain ⟨rfl, rfl⟩ : nf = false ∧ mode = 0#6 := by simpa using hlimit
    exact ⟨rfl, rfl⟩
  next hopc =>
    obtain ⟨size, c, nf, mode, rfl, hlimit, rfl⟩ := formatI_eq_ok (opc := 0x23#8) (opcode hopc) h
    obtain rfl : mode = 1#6 := by simpa using hlimit
    exact ⟨rfl, rfl⟩
  next hopc =>
    obtain ⟨size, c, nf, mode, rfl, hlimit, rfl⟩ := formatI_eq_ok (opc := 0x24#8) (opcode hopc) h
    exact ⟨hlimit, rfl⟩
  next hopc =>
    obtain ⟨size, c, nf, mode, rfl, hlimit, rfl⟩ := formatI_eq_ok (opc := 0x25#8) (opcode hopc) h
    obtain ⟨rfl, rfl⟩ : nf = false ∧ mode = 0#6 := by simpa using hlimit
    exact ⟨rfl, rfl⟩
  next hopc => exact encode_of_formatZ (opc := 0x7F#8) rfl rfl (opcode hopc) h
  next => cases h

/-- The words that decode are those of the well-formed commands. -/
theorem decode_eq_ok_iff {w : Word} {i : Instr} :
    decode w = .ok i ↔ i.WellFormed ∧ encode i = w := by
  refine ⟨encodeOfDecode w i, ?_⟩
  rintro ⟨hi, rfl⟩
  exact decodeOfEncode i hi

/-- Settles O1: each legal word is the encoding of its command, and each illegal word breaks one
clause of R57. -/
theorem specWordsDecode : Obligations.SpecWordsDecode :=
  ⟨decodeOfEncode .nop rfl, decodeOfEncode (.rdDecide 200#8) rfl, decodeOfEncode (.rdBits 5#6) rfl,
    decodeOfEncode (.rdSigned (-7#16)) rfl, decodeOfEncode (.itDst4 .chroma) rfl,
    decodeOfEncode (.itSkip .n4 .luma true) rfl, decodeOfEncode (.ipAng .n8 .luma true 26#6) rfl,
    decodeOfEncode .softReset rfl, rfl, rfl, rfl⟩

/-! ### The field limits of the opcode map, on the fields of a word (30_encoding.md R56) -/

section Limits

variable {w : Word} {opc : BitVec 8} {size : BlockSize} {c : Component} {nf : Bool}
  {mode : BitVec 6}

theorem mod_eq_toNat_field (w : Word) (k : Nat) : w.toNat % 2 ^ k = (w.extractLsb' 0 k).toNat := by
  simp

theorem modeField_toNat (w : Word) : Spec.modeField w.toNat = (w.extractLsb' 5 6).toNat := by
  simp [Spec.modeField, Nat.shiftRight_eq_div_pow]

theorem log2nLegal_iff :
    Spec.log2nLegal w.toNat = true ↔ ∃ size, w.extractLsb' 0 3 = log2nField size := by
  have hfield : ∀ x : BitVec 3, (2 ≤ x.toNat && x.toNat ≤ 5) = (blockSizeOf x).isSome := by decide
  have hlegal : Spec.log2nLegal w.toNat = (blockSizeOf (w.extractLsb' 0 3)).isSome := by
    rw [← hfield, ← mod_eq_toNat_field]
    rfl
  simp only [hlegal, Option.isSome_iff_exists, blockSizeOf_eq_some]

theorem log2nLegal_wordI : Spec.log2nLegal (wordI opc size c nf mode).toNat = true :=
  log2nLegal_iff.2 ⟨size, wordI_size⟩

theorem log2nLegal_wordT : Spec.log2nLegal (wordT opc size c nf).toNat = true := by
  rw [wordT_eq_wordI, log2nLegal_wordI]

theorem modeField_wordI : Spec.modeField (wordI opc size c nf mode).toNat = mode.toNat := by
  rw [modeField_toNat, wordI_mode]

theorem rotLegal_wordI :
    Spec.rotLegal (wordI opc size c nf mode).toNat = rotAllowed size nf := by
  have hbit : (wordI opc size c nf mode).toNat / 16 % 2 = nf.toNat :=
    (Nat.toNat_testBit _ 4).symm.trans (congrArg Bool.toNat wordI_bit4)
  have hsize : (wordI opc size c nf mode).toNat % 8 = (log2nField size).toNat :=
    (mod_eq_toNat_field _ 3).trans (congrArg BitVec.toNat wordI_size)
  rw [Spec.rotLegal, hbit, hsize]
  cases size <;> cases nf <;> rfl

theorem rotLegal_wordT : Spec.rotLegal (wordT opc size c nf).toNat = rotAllowed size nf := by
  rw [wordT_eq_wordI, rotLegal_wordI]

end Limits

/-! ### The rows of the opcode map (30_encoding.md R56) -/

section Rows

open Sys2Proof.Laws

/-- A well-formed command's word selects the command's row. -/
theorem encode_selects_row {i : Instr} (hi : i.WellFormed) :
    ∃ row, Spec.opcodeRows[Spec.rowIndex i]? = some row ∧ row.selects (encode i) := by
  cases i with
  | nop => exact ⟨_, rfl, TableRow.nop, rfl⟩
  | rdInit => exact ⟨_, rfl, TableRow.rdInit, rfl⟩
  | rdDecide prob => exact ⟨_, rfl, TableRow.rdDecide prob, rfl⟩
  | rdDecideEq => exact ⟨_, rfl, TableRow.rdDecideEq, rfl⟩
  | rdBits n =>
    refine ⟨_, rfl, TableRow.rdBits n, ?_⟩
    have hn : (encode (.rdBits n)).toNat % 64 = n.toNat :=
      (mod_eq_toNat_field _ 6).trans (congrArg _ (operand_field _ n (by decide)))
    change decide ((encode (.rdBits n)).toNat % 64 ≤ 32) = true
    rw [hn]
    exact hi
  | rdSigned v => exact ⟨_, rfl, TableRow.rdSigned v, rfl⟩
  | rdSave => exact ⟨_, rfl, TableRow.rdSave, rfl⟩
  | rdRestore => exact ⟨_, rfl, TableRow.rdRestore, rfl⟩
  | itDct size c => exact ⟨_, rfl, TableRow.itDct size c, log2nLegal_wordT⟩
  | itDst4 c => exact ⟨_, rfl, TableRow.itDst4 c, rfl⟩
  | itSkip size c rot =>
    exact ⟨_, rfl, TableRow.itSkip size c rot,
      Bool.and_eq_true_iff.2 ⟨log2nLegal_wordT, rotLegal_wordT.trans hi⟩⟩
  | itBypass size c rot =>
    exact ⟨_, rfl, TableRow.itBypass size c rot,
      Bool.and_eq_true_iff.2 ⟨log2nLegal_wordT, rotLegal_wordT.trans hi⟩⟩
  | ipSubst size c => exact ⟨_, rfl, TableRow.ipSubst size c, log2nLegal_wordI⟩
  | ipFilter size c mode =>
    refine ⟨_, rfl, TableRow.ipFilter size c mode, ?_⟩
    simpa [encode, log2nLegal_wordI, modeField_wordI, Instr.WellFormed, Instr.wf] using hi
  | ipPlanar size c => exact ⟨_, rfl, TableRow.ipPlanar size c, log2nLegal_wordI⟩
  | ipDc size c nf => exact ⟨_, rfl, TableRow.ipDc size c nf, log2nLegal_wordI⟩
  | ipAng size c nf mode =>
    refine ⟨_, rfl, TableRow.ipAng size c nf mode, ?_⟩
    simpa [encode, log2nLegal_wordI, modeField_wordI, Instr.WellFormed, Instr.wf] using hi
  | ipRecon size c => exact ⟨_, rfl, TableRow.ipRecon size c, log2nLegal_wordI⟩
  | softReset => exact ⟨_, rfl, TableRow.softReset, rfl⟩

/-- The word is that of a well-formed command of row `k`. -/
def IsCommandOfRow (w : Word) (k : Nat) : Prop :=
  ∃ i : Instr, i.WellFormed ∧ encode i = w ∧ Spec.rowIndex i = k

/-- A row whose mask is all ones is selected by its pattern alone. -/
theorem isCommandOfRow_of_exact {w : Word} {i : Instr} (hi : i.WellFormed)
    (hm : w &&& 0xFFFFFFFF#32 = encode i) : IsCommandOfRow w (Spec.rowIndex i) :=
  ⟨i, hi, hm.symm.trans BitVec.and_allOnes, rfl⟩

section Masked

variable {w mask pattern : Word} {opc : BitVec 8} {size : BlockSize} {c : Component} {nf : Bool}
  {mode : BitVec 6}

/-- A mask that covers the bits above `mode`, in a row whose words have a legal block size: a word
that selects the row has format I, or format T where the mask covers `mode` as well. -/
theorem exists_wordI_of_masked (hm : w &&& mask = pattern)
    (hmask : mask.extractLsb' 11 21 = BitVec.allOnes 21) (hopc : opcodeOf pattern = opc)
    (hres : pattern.extractLsb' 11 13 = 0#13)
    (hsize : ∃ size, w.extractLsb' 0 3 = log2nField size) :
    ∃ size c nf mode, w = wordI opc size c nf mode := by
  obtain ⟨size, hsize⟩ := hsize
  obtain ⟨hwres, hwopc⟩ := (extractLsb'_add_eq_iff (k := 13) (len := 8)).1
    (extractLsb'_of_masked hm 11 21 hmask)
  exact ⟨size, _, _, _,
    eq_wordI (Eq.trans hwopc hopc) (hwres.trans hres) (blockSizeOf_eq_some.2 hsize)⟩

theorem nf_of_masked (hm : wordI opc size c nf mode &&& mask = pattern)
    (hmask : mask.extractLsb' 4 1 = BitVec.allOnes 1)
    (hpattern : pattern.extractLsb' 4 1 = BitVec.ofBool false) : nf = false := by
  have h := (extractLsb'_of_masked hm 4 1 hmask).trans hpattern
  rwa [wordI_nf, BitVec.ofBool_eq_iff_eq] at h

theorem mode_of_masked (hm : wordI opc size c nf mode &&& mask = pattern)
    (hmask : mask.extractLsb' 5 6 = BitVec.allOnes 6) : mode = pattern.extractLsb' 5 6 :=
  wordI_mode.symm.trans (extractLsb'_of_masked hm 5 6 hmask)

theorem size_of_masked (hm : wordI opc size c nf mode &&& mask = pattern)
    (hmask : mask.extractLsb' 0 3 = BitVec.allOnes 3) :
    blockSizeOf (pattern.extractLsb' 0 3) = some size :=
  blockSizeOf_eq_some.2 ((extractLsb'_of_masked hm 0 3 hmask).symm.trans wordI_size)

/-- The rows that fix every bit but `log2n` and `c`. -/
theorem exists_wordI_of_size_row (hm : w &&& 0xFFFFFFF0#32 = wordZ opc)
    (hlimit : Spec.log2nLegal w.toNat = true) : ∃ size c, w = wordI opc size c false 0#6 := by
  obtain ⟨size, c, nf, mode, rfl⟩ := exists_wordI_of_masked hm rfl (opcodeOf_wordZ opc)
    (by simp [wordZ]) (log2nLegal_iff.1 hlimit)
  obtain rfl := nf_of_masked hm rfl (by simp [wordZ])
  obtain rfl := mode_of_masked hm rfl
  exact ⟨size, c, by simp [wordZ]⟩

/-- The rows that fix every bit but `log2n`, `c` and `rot`. -/
theorem exists_wordT_of_rot_row (hm : w &&& 0xFFFFFFE0#32 = wordZ opc)
    (hlimit : (Spec.log2nLegal w.toNat && Spec.rotLegal w.toNat) = true) :
    ∃ size c rot, rotAllowed size rot = true ∧ w = wordT opc size c rot := by
  obtain ⟨hsize, hrot⟩ := Bool.and_eq_true_iff.1 hlimit
  obtain ⟨size, c, rot, mode, rfl⟩ := exists_wordI_of_masked hm rfl (opcodeOf_wordZ opc)
    (by simp [wordZ]) (log2nLegal_iff.1 hsize)
  obtain rfl := mode_of_masked hm rfl
  exact ⟨size, c, rot, rotLegal_wordI.symm.trans hrot, by simp [wordZ, wordT_eq_wordI]⟩

end Masked

/-- Every row: the mask and the field limits leave the words of the row's commands. -/
theorem isCommandOfRow_of_selects {w : Word} : ∀ {k : Nat} {row : Spec.OpcodeRow},
    Spec.opcodeRows[k]? = some row → row.selects w → IsCommandOfRow w k
  | 0, _, rfl, ⟨hm, _⟩ => isCommandOfRow_of_exact (i := .nop) rfl hm
  | 1, _, rfl, ⟨hm, _⟩ => isCommandOfRow_of_exact (i := .rdInit) rfl hm
  | 2, _, rfl, ⟨hm, _⟩ =>
    ⟨.rdDecide _, rfl, (eq_operand rfl (extractLsb'_of_masked hm 24 8 rfl)
      (extractLsb'_of_masked hm 8 16 rfl)).symm, rfl⟩
  | 3, _, rfl, ⟨hm, _⟩ => isCommandOfRow_of_exact (i := .rdDecideEq) rfl hm
  | 4, _, rfl, ⟨hm, hlimit⟩ =>
    ⟨.rdBits (w.extractLsb' 0 6), by rwa [Instr.WellFormed, Instr.wf, ← mod_eq_toNat_field],
      (eq_operand rfl (extractLsb'_of_masked hm 24 8 rfl)
        (extractLsb'_of_masked hm 6 18 rfl)).symm, rfl⟩
  | 5, _, rfl, ⟨hm, _⟩ =>
    ⟨.rdSigned _, rfl, (eq_operand rfl (extractLsb'_of_masked hm 24 8 rfl)
      (extractLsb'_of_masked hm 16 8 rfl)).symm, rfl⟩
  | 6, _, rfl, ⟨hm, _⟩ => isCommandOfRow_of_exact (i := .rdSave) rfl hm
  | 7, _, rfl, ⟨hm, _⟩ => isCommandOfRow_of_exact (i := .rdRestore) rfl hm
  | 8, _, rfl, ⟨hm, hlimit⟩ =>
    have ⟨size, c, h⟩ := exists_wordI_of_size_row (opc := 0x10#8) hm hlimit
    ⟨.itDct size c, rfl, (wordT_eq_wordI _ _ _ _).trans h.symm, rfl⟩
  | 9, _, rfl, ⟨hm, _⟩ => by
    obtain ⟨size, c, nf, mode, rfl⟩ :=
      exists_wordI_of_masked (opc := 0x11#8) hm rfl rfl rfl
        ⟨.n4, extractLsb'_of_masked hm 0 3 rfl⟩
    obtain rfl := nf_of_masked hm rfl rfl
    obtain rfl := mode_of_masked hm rfl
    cases size_of_masked hm rfl
    exact ⟨.itDst4 c, rfl, wordT_eq_wordI _ _ _ _, rfl⟩
  | 10, _, rfl, ⟨hm, hlimit⟩ =>
    have ⟨size, c, rot, hrot, h⟩ := exists_wordT_of_rot_row (opc := 0x12#8) hm hlimit
    ⟨.itSkip size c rot, hrot, h.symm, rfl⟩
  | 11, _, rfl, ⟨hm, hlimit⟩ =>
    have ⟨size, c, rot, hrot, h⟩ := exists_wordT_of_rot_row (opc := 0x13#8) hm hlimit
    ⟨.itBypass size c rot, hrot, h.symm, rfl⟩
  | 12, _, rfl, ⟨hm, hlimit⟩ =>
    have ⟨size, c, h⟩ := exists_wordI_of_size_row (opc := 0x20#8) hm hlimit
    ⟨.ipSubst size c, rfl, h.symm, rfl⟩
  | 13, _, rfl, ⟨hm, hlimit⟩ => by
    obtain ⟨hsize, hmode⟩ := Bool.and_eq_true_iff.1 hlimit
    obtain ⟨size, c, nf, mode, rfl⟩ :=
      exists_wordI_of_masked (opc := 0x21#8) hm rfl rfl rfl (log2nLegal_iff.1 hsize)
    obtain rfl := nf_of_masked hm rfl rfl
    rw [modeField_wordI] at hmode
    exact ⟨.ipFilter size c mode, hmode, rfl, rfl⟩
  | 14, _, rfl, ⟨hm, hlimit⟩ =>
    have ⟨size, c, h⟩ := exists_wordI_of_size_row (opc := 0x22#8) hm hlimit
    ⟨.ipPlanar size c, rfl, h.symm, rfl⟩
  | 15, _, rfl, ⟨hm, hlimit⟩ => by
    obtain ⟨size, c, nf, mode, rfl⟩ :=
      exists_wordI_of_masked (opc := 0x23#8) hm rfl rfl rfl (log2nLegal_iff.1 hlimit)
    obtain rfl := mode_of_masked hm rfl
    exact ⟨.ipDc size c nf, rfl, rfl, rfl⟩
  | 16, _, rfl, ⟨hm, hlimit⟩ => by
    obtain ⟨hsizelow, hhigh⟩ := Bool.and_eq_true_iff.1 hlimit
    obtain ⟨hsize, hlow⟩ := Bool.and_eq_true_iff.1 hsizelow
    obtain ⟨size, c, nf, mode, rfl⟩ :=
      exists_wordI_of_masked (opc := 0x24#8) hm rfl rfl rfl (log2nLegal_iff.1 hsize)
    rw [modeField_wordI] at hlow hhigh
    exact ⟨.ipAng size c nf mode, Bool.and_eq_true_iff.2 ⟨hlow, hhigh⟩, rfl, rfl⟩
  | 17, _, rfl, ⟨hm, hlimit⟩ =>
    have ⟨size, c, h⟩ := exists_wordI_of_size_row (opc := 0x25#8) hm hlimit
    ⟨.ipRecon size c, rfl, h.symm, rfl⟩
  | 18, _, rfl, ⟨hm, _⟩ => isCommandOfRow_of_exact (i := .softReset) rfl hm
  | _ + 19, _, hrow, _ => nomatch hrow

/-- A row is selected by the words that decode to one of its commands, and by no other. -/
theorem selects_iff_decode {w : Word} {k : Nat} {row : Spec.OpcodeRow}
    (hrow : Spec.opcodeRows[k]? = some row) :
    row.selects w ↔ ∃ i, decode w = .ok i ∧ k = Spec.rowIndex i := by
  constructor
  · intro hselects
    obtain ⟨i, hi, hencode, rfl⟩ := isCommandOfRow_of_selects hrow hselects
    exact ⟨i, decode_eq_ok_iff.2 ⟨hi, hencode⟩, rfl⟩
  · rintro ⟨i, hdecode, rfl⟩
    obtain ⟨hi, rfl⟩ := decode_eq_ok_iff.1 hdecode
    obtain ⟨row', hrow', hselects⟩ := encode_selects_row hi
    cases hrow.symm.trans hrow'
    exact hselects

/-- Settles O4: a row is selected by the words that decode to its commands (`selects_iff_decode`),
and a word decodes to at most one command. -/
theorem decodeFollowsOpcodeMap : Obligations.DecodeFollowsOpcodeMap := by
  refine fun w => ⟨fun i hi k row hrow => ?_, fun e he row hmem hselects => ?_⟩
  · simp [selects_iff_decode hrow, hi]
  · obtain ⟨k, hrow⟩ := List.mem_iff_getElem?.1 hmem
    obtain ⟨i, hi, -⟩ := (selects_iff_decode hrow).1 hselects
    cases he.symm.trans hi

/-- A word that selects no row is illegal. -/
theorem decode_error_of_no_row {w : Word} (h : ∀ row ∈ Spec.opcodeRows, ¬ row.selects w) :
    ∃ e, decode w = .error e := by
  cases hdecode : decode w with
  | error e => exact ⟨e, rfl⟩
  | ok i =>
    obtain ⟨hi, rfl⟩ := decode_eq_ok_iff.1 hdecode
    obtain ⟨row, hrow, hselects⟩ := encode_selects_row hi
    exact absurd hselects (h row (List.mem_of_getElem? hrow))

end Rows

/-- Settles O7: the step takes the move off the queue, register index 0 is CMD, and the word, which
no command has, raises IllegalCommand. -/
theorem illegalWordRaisesIllegalCommand : Obligations.IllegalWordRaisesIllegalCommand := by
  intro s w rest hb hfault hrows
  obtain ⟨e, he⟩ := decode_error_of_no_row hrows
  have hready : (s.withBus rest).faulted = false := faulted_eq_false.2 hfault
  calc step s = hostWrite (s.withBus rest) 0#13 w := step_event hb
    _ = writeCommand (s.withBus rest) w := hostWrite_cmd _ w
    _ = .next ((s.withBus rest).raise .illegalCommand w) := by
      rw [writeCommand_illegal he, hready]
      rfl

end Sys2Proof.Proofs.Encoding
end

section
/-!
PROOFS. The decoder on numbers: what the formulas of 40_range_decoder.md R66 to R73 do to VALUE,
RANGE, COUNT and BS_POS, with the derived laws R72, R79, R80, R81 and R82. The machine is tied to
them by the lemmas about `Spec.coder` in the part that follows.
-/

namespace Sys2Proof.Proofs.CoderNumbers

open Sys2Proof.Machine

/-! ### One decision in its parts -/

/-- The interval steps 2 and 3 keep, before its renormalisation (40_range_decoder.md R68). -/
def keptInterval (prob : Nat) (c : Spec.Coder) : Nat :=
  if (c.range - 1) * prob / 256 < c.value / 2 ^ c.count.toNat then
    c.range - 1 - (c.range - 1) * prob / 256
  else (c.range - 1) * prob / 256 + 1

/-- The shift that renormalises an interval (40_range_decoder.md R69). -/
def shiftOf (rng : Nat) : Nat := 7 - Nat.log2 rng

/-- Step 1 of a decision, the refill on entry (40_range_decoder.md R67). -/
def filled (byte : Nat → Nat) (len : Nat) (c : Spec.Coder) : Option Spec.Coder :=
  if c.count < 0 then Spec.refill byte len c else some c

/-- RANGE and COUNT are within their bounds (40_range_decoder.md R79, R80). -/
structure Fits (c : Spec.Coder) : Prop where
  range_ge : 128 ≤ c.range
  range_lt : c.range < 256
  count_ge : -8 ≤ c.count
  count_le : c.count ≤ 7

section Decision

variable {byte : Nat → Nat} {len prob : Nat} {b : Bool} {c d c' : Spec.Coder}

theorem decideFilled_parts (prob : Nat) (c : Spec.Coder) :
    Spec.decideFilled prob c =
      (decide ((c.range - 1) * prob / 256 < c.value / 2 ^ c.count.toNat),
       ⟨if (c.range - 1) * prob / 256 < c.value / 2 ^ c.count.toNat then
          c.value - ((c.range - 1) * prob / 256 + 1) * 2 ^ c.count.toNat else c.value,
        keptInterval prob c * 2 ^ shiftOf (keptInterval prob c),
        c.count - shiftOf (keptInterval prob c), c.pos⟩) := rfl

theorem decideFilled_range (prob : Nat) (c : Spec.Coder) :
    (Spec.decideFilled prob c).2.range =
      keptInterval prob c * 2 ^ shiftOf (keptInterval prob c) := rfl

theorem decideFilled_count (prob : Nat) (c : Spec.Coder) :
    (Spec.decideFilled prob c).2.count = c.count - shiftOf (keptInterval prob c) := rfl

theorem decideFilled_pos (prob : Nat) (c : Spec.Coder) :
    (Spec.decideFilled prob c).2.pos = c.pos := rfl

theorem decideFilled_value_le (prob : Nat) (c : Spec.Coder) :
    (Spec.decideFilled prob c).2.value ≤ c.value := by
  rw [decideFilled_parts]
  dsimp only
  split <;> omega

/-- The refill on entry, then steps 2 and 3. -/
theorem decideBit_eq_map (byte : Nat → Nat) (len prob : Nat) (c : Spec.Coder) :
    Spec.decideBit byte len prob c = (filled byte len c).map (Spec.decideFilled prob) := by
  rw [Spec.decideBit, filled]
  split <;> rfl

theorem decideBit_eq_some (h : Spec.decideBit byte len prob c = some (b, c')) :
    ∃ d, filled byte len c = some d ∧ c' = (Spec.decideFilled prob d).2 := by
  rw [decideBit_eq_map, Option.map_eq_some_iff] at h
  obtain ⟨d, hd, hdecide⟩ := h
  exact ⟨d, hd, congrArg Prod.snd hdecide.symm⟩

theorem filled_eq_none : filled byte len c = none ↔ c.count < 0 ∧ len ≤ c.pos := by
  simp only [filled, Spec.refill]
  split <;> simp [*]

/-- A decision is starved when it needs a byte and the window has none left (R67). -/
theorem decideBit_eq_none : Spec.decideBit byte len prob c = none ↔ c.count < 0 ∧ len ≤ c.pos := by
  rw [decideBit_eq_map, Option.map_eq_none_iff, filled_eq_none]

theorem filled_eq_some (h : filled byte len c = some d) :
    0 ≤ c.count ∧ d = c ∨
      c.count < 0 ∧ c.pos < len ∧
        d = ⟨(c.value * 256 + byte c.pos) % 2 ^ 32, c.range, c.count + 8, c.pos + 1⟩ := by
  rw [filled] at h
  split at h
  next hneg =>
    rw [Spec.refill] at h
    split at h
    · cases h
    · cases h
      exact .inr ⟨hneg, by omega, rfl⟩
  next hnonneg =>
    cases h
    exact .inl ⟨by omega, rfl⟩

/-- A refill brings COUNT up to 0..7 and leaves RANGE alone (40_range_decoder.md R66, R80). -/
theorem filled_fits (h : filled byte len c = some d) (hc : Fits c) : Fits d ∧ 0 ≤ d.count := by
  obtain ⟨hge, hlt, hcount, hmost⟩ := hc
  obtain ⟨hnonneg, rfl⟩ | ⟨hneg, -, rfl⟩ := filled_eq_some h
  · exact ⟨⟨hge, hlt, hcount, hmost⟩, hnonneg⟩
  · exact ⟨⟨hge, hlt, by dsimp only; omega, by dsimp only; omega⟩, by dsimp only; omega⟩

/-- A refill fetches eight bits and makes eight more available (40_range_decoder.md R82). -/
theorem filled_bits (h : filled byte len c = some d) :
    8 * (d.pos : Int) - d.count = 8 * (c.pos : Int) - c.count := by
  obtain ⟨-, rfl⟩ | ⟨-, -, rfl⟩ := filled_eq_some h
  · rfl
  · push_cast
    omega

theorem keptInterval_mem (hp : prob ≤ 255) (hc : Fits c) :
    1 ≤ keptInterval prob c ∧ keptInterval prob c ≤ 254 := by
  have hr := hc.range_ge
  have hlt := hc.range_lt
  have hsplit : (c.range - 1) * prob / 256 < c.range - 1 := split_lt (by omega) hp
  unfold keptInterval
  split <;> omega

/-- RANGE and COUNT after a decision (40_range_decoder.md R79, R80). -/
structure Normalized (c : Spec.Coder) : Prop where
  range_ge : 128 ≤ c.range
  range_le : c.range ≤ 254
  count_ge : -7 ≤ c.count
  count_le : c.count ≤ 7

theorem Normalized.fits (h : Normalized c) : Fits c where
  range_ge := h.range_ge
  range_lt := Nat.lt_succ_of_le (h.range_le.trans (by decide))
  count_ge := le_trans (by decide) h.count_ge
  count_le := h.count_le

theorem decideFilled_normalized (hp : prob ≤ 255) (hc : Fits c) (hnonneg : 0 ≤ c.count) :
    Normalized (Spec.decideFilled prob c).2 := by
  obtain ⟨hone, hmost⟩ := keptInterval_mem hp hc
  obtain ⟨hge, hle⟩ := renorm_range hone hmost
  have hshift : shiftOf (keptInterval prob c) ≤ 7 := Nat.sub_le 7 _
  have hcount := hc.count_le
  refine ⟨hge, hle, ?_, ?_⟩
  · rw [decideFilled_count]
    omega
  · rw [decideFilled_count]
    omega

theorem decideBit_normalized (h : Spec.decideBit byte len prob c = some (b, c'))
    (hp : prob ≤ 255) (hc : Fits c) : Normalized c' := by
  obtain ⟨d, hd, rfl⟩ := decideBit_eq_some h
  obtain ⟨hfits, hnonneg⟩ := filled_fits hd hc
  exact decideFilled_normalized hp hfits hnonneg

/-! ### Equiprobable decisions (40_range_decoder.md R72) -/

/-- An equiprobable split halves the interval. -/
theorem even_split (r : Nat) : r * 128 / 256 = r / 2 := by omega

theorem keptInterval_even (c : Spec.Coder) :
    keptInterval 128 c =
      if (c.range - 1) / 2 < c.value / 2 ^ c.count.toNat then c.range - 1 - (c.range - 1) / 2
      else (c.range - 1) / 2 + 1 := by
  rw [keptInterval, even_split]

/-- An interval of 64 to 127 is doubled. -/
theorem shiftOf_eq_one {rng : Nat} (hge : 64 ≤ rng) (hlt : rng < 128) : shiftOf rng = 1 := by
  have hlog : Nat.log2 rng = 6 := (Nat.log2_eq_iff (by omega)).2 ⟨hge, hlt⟩
  rw [shiftOf, hlog]

theorem shiftOf_le_one {rng : Nat} (hge : 64 ≤ rng) : shiftOf rng ≤ 1 := by
  have hlog : 6 ≤ Nat.log2 rng := (Nat.le_log2 (by omega)).2 hge
  rw [shiftOf]
  omega

/-- The bit of an equiprobable decision. -/
theorem even_bit (c : Spec.Coder) : (Spec.decideFilled 128 c).1 =
    decide ((c.range - 1) / 2 < c.value / 2 ^ c.count.toNat) := by
  rw [decideFilled_parts, even_split]

/-- From RANGE at most 254, or on the bit 1, an equiprobable decision keeps 64 to 127. -/
theorem keptInterval_even_mem (hc : Fits c)
    (h : c.range ≤ 254 ∨ (Spec.decideFilled 128 c).1 = true) :
    64 ≤ keptInterval 128 c ∧ keptInterval 128 c < 128 := by
  have hge := hc.range_ge
  have hlt := hc.range_lt
  rw [even_bit, decide_eq_true_eq] at h
  rw [keptInterval_even]
  split <;> omega

/-- An equiprobable decision consumes at most one bit. -/
theorem shiftOf_even_le_one (hge : 128 ≤ c.range) : shiftOf (keptInterval 128 c) ≤ 1 := by
  refine shiftOf_le_one ?_
  rw [keptInterval_even]
  split <;> omega

/-- An equiprobable decision from RANGE at most 254 consumes one bit (40_range_decoder.md R82). -/
theorem decideBit_even_bits (h : Spec.decideBit byte len 128 c = some (b, c')) (hc : Fits c)
    (hle : c.range ≤ 254) :
    8 * (c'.pos : Int) - c'.count = 8 * (c.pos : Int) - c.count + 1 := by
  obtain ⟨d, hd, rfl⟩ := decideBit_eq_some h
  have hrange : d.range = c.range := by
    obtain ⟨-, rfl⟩ | ⟨-, -, rfl⟩ := filled_eq_some hd <;> rfl
  have hfits := (filled_fits hd hc).1
  obtain ⟨hge, hlt⟩ := keptInterval_even_mem hfits (.inl (hrange.trans_le hle))
  have hbits := filled_bits hd
  rw [decideFilled_count, decideFilled_pos, shiftOf_eq_one hge hlt]
  omega

/-- Setting bit 0 and adding 1 rounds up to the next even number. -/
theorem or_one_add_one (n : Nat) : (n ||| 1) + 1 = (n / 2 + 1) * 2 := by
  have hhalf : (n ||| 1) / 2 = n / 2 := by rw [Nat.or_div_two, Nat.or_zero]
  have hodd : (n ||| 1) % 2 = 1 := Nat.or_mod_two_eq_one.2 (.inr rfl)
  omega

/-- Where an equiprobable decision keeps 64 to 127, the branch-free update is the decision. -/
theorem fastPath_eq_decideFilled (hc : Fits c)
    (h : c.range ≤ 254 ∨ (Spec.decideFilled 128 c).1 = true) :
    Spec.fastPath c = Spec.decideFilled 128 c := by
  have hge := hc.range_ge
  obtain ⟨hkept, hlt⟩ := keptInterval_even_mem hc h
  have hshift := shiftOf_eq_one hkept hlt
  rw [Spec.fastPath, decideFilled_parts, hshift, keptInterval_even, even_split]
  simp only [or_one_add_one]
  by_cases hm : (c.range - 1) / 2 < c.value / 2 ^ c.count.toNat
  · have hhalf : (c.range - 1 - 1) / 2 + 1 = c.range - 1 - (c.range - 1) / 2 := by omega
    simp [hm, hhalf]
  · simp [hm]

/-- From RANGE 255 the bit 0 keeps 128, and the branch-free update does not (R72). -/
theorem even_decision_of_255 (hrange : c.range = 255) (hbit : (Spec.decideFilled 128 c).1 = false) :
    (Spec.decideFilled 128 c).2 = { c with range := 128 } ∧
      Spec.fastPath c = (false, { c with range := 256, count := c.count - 1 }) := by
  have hm : ¬ 127 < c.value / 2 ^ c.count.toNat := by
    simpa [even_bit, hrange] using hbit
  have hkept : keptInterval 128 c = 128 := by simp [keptInterval_even, hrange, hm]
  have hshift : shiftOf 128 = 0 := by decide
  rw [decideFilled_parts, hkept, hshift]
  simp [Spec.fastPath, hrange, hm]

/-! ### The value invariant (40_range_decoder.md R81) -/

/-- INV of the decoder's numbers, on an interval that ends on a fetched bit. -/
structure ValueSound (c : Spec.Coder) : Prop where
  below : if 0 ≤ c.count then c.value < c.range * 2 ^ c.count.toNat
    else c.value * 2 ^ (-c.count).toNat < c.range
  aligned : c.count < 0 → 2 ^ (-c.count).toNat ∣ c.range

theorem ValueSound.value_lt (h : ValueSound c) (hc : Fits c) : c.value < 2 ^ 15 := by
  have hrange := hc.range_lt
  have hbelow := h.below
  split at hbelow
  next hnonneg =>
    have hpow : 2 ^ c.count.toNat ≤ 2 ^ 7 :=
      Nat.pow_le_pow_right (by decide) (Int.toNat_le.2 hc.count_le)
    calc c.value < c.range * 2 ^ c.count.toNat := hbelow
      _ ≤ 255 * 2 ^ 7 := Nat.mul_le_mul (Nat.le_of_lt_succ hrange) hpow
      _ ≤ 2 ^ 15 := by decide
  next =>
    have hle : c.value ≤ c.value * 2 ^ (-c.count).toNat := Nat.le_mul_of_pos_right _ (by positivity)
    omega

/-- R81 (a): the interval ends on a fetched bit, so the byte fetched stays inside it. -/
theorem filled_value_lt (h : filled byte len c = some d) (hbyte : ∀ p, byte p < 256)
    (hc : Fits c) (hsound : ValueSound c) : d.value < d.range * 2 ^ d.count.toNat := by
  have hbelow := hsound.below
  obtain ⟨hnonneg, rfl⟩ | ⟨hneg, -, rfl⟩ := filled_eq_some h
  · rwa [if_pos hnonneg] at hbelow
  · rw [if_neg (by omega)] at hbelow
    obtain ⟨m, hm⟩ := hsound.aligned hneg
    have hvalue : c.value < m := by
      rw [hm, Nat.mul_comm] at hbelow
      exact Nat.lt_of_mul_lt_mul_left hbelow
    have hexp : (-c.count).toNat + (c.count + 8).toNat = 8 := by
      have := hc.count_ge
      omega
    have hrange : c.range * 2 ^ (c.count + 8).toNat = m * 2 ^ 8 := by
      calc c.range * 2 ^ (c.count + 8).toNat
          = m * 2 ^ ((-c.count).toNat + (c.count + 8).toNat) := by rw [hm, pow_add]; ring
        _ = m * 2 ^ 8 := by rw [hexp]
    have hb := hbyte c.pos
    calc (c.value * 256 + byte c.pos) % 2 ^ 32 ≤ c.value * 256 + byte c.pos := Nat.mod_le _ _
      _ < m * 2 ^ 8 := by omega
      _ = c.range * 2 ^ (c.count + 8).toNat := hrange.symm

/-- The first half of R81 (b): VALUE stays inside the interval that is kept. -/
theorem decideFilled_value_lt (hp : prob ≤ 255) (hc : Fits c)
    (hvalue : c.value < c.range * 2 ^ c.count.toNat) :
    (Spec.decideFilled prob c).2.value < keptInterval prob c * 2 ^ c.count.toNat := by
  have hr := hc.range_ge
  have hsplit : (c.range - 1) * prob / 256 < c.range - 1 := split_lt (by omega) hp
  rw [decideFilled_parts, keptInterval]
  generalize (c.range - 1) * prob / 256 = split at hsplit
  by_cases hbit : split < c.value / 2 ^ c.count.toNat
  · have hparts : c.range * 2 ^ c.count.toNat =
        (split + 1) * 2 ^ c.count.toNat + (c.range - 1 - split) * 2 ^ c.count.toNat := by
      rw [← Nat.add_mul]
      congr 1
      omega
    have hpos : 0 < (c.range - 1 - split) * 2 ^ c.count.toNat :=
      Nat.mul_pos (by omega) (by positivity)
    simp only [if_pos hbit]
    omega
  · simp only [if_neg hbit]
    exact (Nat.div_lt_iff_lt_mul (by positivity)).1 (by omega)

/-- The second half of R81 (b): a renormalisation scales VALUE's bound and RANGE alike. -/
theorem renormalized_sound {value rng pos : Nat} {count : Int} (shift : Nat) (hcount : 0 ≤ count)
    (hvalue : value < rng * 2 ^ count.toNat) :
    ValueSound ⟨value, rng * 2 ^ shift, count - shift, pos⟩ := by
  lift count to Nat using hcount
  rw [Int.toNat_natCast] at hvalue
  rcases Nat.le_total shift count with hle | hle
  · have hnew : (count : Int) - shift = (count - shift : Nat) := by omega
    refine ⟨?_, fun hneg => ?_⟩
    · rw [if_pos (by dsimp only; omega)]
      dsimp only
      rwa [hnew, Int.toNat_natCast, Nat.mul_assoc, ← pow_add, Nat.add_sub_cancel' hle]
    · dsimp only at hneg
      omega
  · obtain ⟨k, rfl⟩ := Nat.exists_eq_add_of_le hle
    have hnew : (-((count : Int) - (count + k : Nat))).toNat = k := by omega
    refine ⟨?_, fun _ => ?_⟩
    · split
      next hnonneg =>
        obtain rfl : k = 0 := by dsimp only at hnonneg; omega
        simpa using hvalue
      next =>
        dsimp only
        rw [hnew, pow_add, ← Nat.mul_assoc]
        exact Nat.mul_lt_mul_of_pos_right hvalue (by positivity)
    · dsimp only
      rw [hnew, pow_add, ← Nat.mul_assoc]
      exact Nat.dvd_mul_left _ _

theorem decideBit_sound (h : Spec.decideBit byte len prob c = some (b, c'))
    (hbyte : ∀ p, byte p < 256) (hp : prob ≤ 255) (hc : Fits c) (hsound : ValueSound c) :
    ValueSound c' := by
  obtain ⟨d, hd, rfl⟩ := decideBit_eq_some h
  obtain ⟨hfits, hnonneg⟩ := filled_fits hd hc
  exact renormalized_sound (shiftOf (keptInterval prob d)) hnonneg
    (decideFilled_value_lt hp hfits (filled_value_lt hd hbyte hc hsound))

end Decision

/-! ### Decisions in sequence -/

/-- `c'` follows from `c` by decisions with the probabilities of the list, in its order. -/
inductive Decides (byte : Nat → Nat) (len : Nat) : List Nat → Spec.Coder → Spec.Coder → Prop where
  | none (c : Spec.Coder) : Decides byte len [] c c
  | more {prob : Nat} {probs : List Nat} {b : Bool} {c d c' : Spec.Coder}
      (first : Spec.decideBit byte len prob c = some (b, d))
      (rest : Decides byte len probs d c') : Decides byte len (prob :: probs) c c'

section Sequences

variable {byte : Nat → Nat} {len n : Nat} {probs : List Nat} {bits : List Bool}
  {c c' : Spec.Coder}

theorem Decides.one {prob : Nat} {b : Bool} (h : Spec.decideBit byte len prob c = some (b, c')) :
    Decides byte len [prob] c c' := .more h (.none c')

theorem Decides.fits (h : Decides byte len probs c c') (hp : ∀ p ∈ probs, p ≤ 255)
    (hc : Fits c) : Fits c' := by
  induction h with
  | none => exact hc
  | more first rest ih =>
    obtain ⟨hprob, hprobs⟩ := List.forall_mem_cons.1 hp
    exact ih hprobs (decideBit_normalized first hprob hc).fits

theorem Decides.normalized (h : Decides byte len probs c c') (hp : ∀ p ∈ probs, p ≤ 255)
    (hc : Fits c) (hne : probs ≠ []) : Normalized c' := by
  induction h with
  | none => exact absurd rfl hne
  | more first rest ih =>
    obtain ⟨hprob, hprobs⟩ := List.forall_mem_cons.1 hp
    have hfirst := decideBit_normalized first hprob hc
    cases rest with
    | none => exact hfirst
    | more => exact ih hprobs hfirst.fits (List.cons_ne_nil _ _)

theorem Decides.sound (h : Decides byte len probs c c') (hp : ∀ p ∈ probs, p ≤ 255)
    (hbyte : ∀ p, byte p < 256) (hc : Fits c) (hsound : ValueSound c) : ValueSound c' := by
  induction h with
  | none => exact hsound
  | more first rest ih =>
    obtain ⟨hprob, hprobs⟩ := List.forall_mem_cons.1 hp
    exact ih hprobs (decideBit_normalized first hprob hc).fits
      (decideBit_sound first hbyte hprob hc hsound)

/-- Equiprobable decisions from RANGE at most 254 consume one bit each (40_range_decoder.md R82). -/
theorem Decides.even_bits (h : Decides byte len probs c c') (hp : ∀ p ∈ probs, p = 128)
    (hc : Fits c) (hle : c.range ≤ 254) :
    8 * (c'.pos : Int) - c'.count = 8 * (c.pos : Int) - c.count + probs.length := by
  induction h with
  | none => simp
  | more first rest ih =>
    obtain ⟨rfl, hprobs⟩ := List.forall_mem_cons.1 hp
    have hfirst := decideBit_normalized first (by decide) hc
    have hbits := decideBit_even_bits first hc hle
    have hrest := ih hprobs hfirst.fits hfirst.range_le
    rw [List.length_cons]
    push_cast
    omega

theorem decideMany_succ : Spec.decideMany byte len (n + 1) c = some (bits, c') ↔
    ∃ b d rest, Spec.decideBit byte len 128 c = some (b, d) ∧
      Spec.decideMany byte len n d = some (rest, c') ∧ bits = b :: rest := by
  rw [Spec.decideMany]
  cases hfirst : Spec.decideBit byte len 128 c with
  | none => simp
  | some p =>
    obtain ⟨b, d⟩ := p
    simp [eq_comm]

theorem decideMany_zero : Spec.decideMany byte len 0 c = some (bits, c') ↔ bits = [] ∧ c' = c := by
  simp [Spec.decideMany, eq_comm]

theorem decideMany_length (h : Spec.decideMany byte len n c = some (bits, c')) :
    bits.length = n := by
  induction n generalizing c bits with
  | zero =>
    obtain ⟨rfl, -⟩ := decideMany_zero.1 h
    rfl
  | succ n ih =>
    obtain ⟨b, d, rest, -, hrest, rfl⟩ := decideMany_succ.1 h
    rw [List.length_cons, ih hrest]

theorem decideMany_decides (h : Spec.decideMany byte len n c = some (bits, c')) :
    Decides byte len (List.replicate n 128) c c' := by
  induction n generalizing c bits with
  | zero =>
    obtain ⟨-, rfl⟩ := decideMany_zero.1 h
    exact .none c'
  | succ n ih =>
    obtain ⟨b, d, rest, hfirst, hrest, -⟩ := decideMany_succ.1 h
    exact .more hfirst (ih hrest)

/-- Decisions that are not all made stop at one that is starved. -/
theorem decideMany_eq_none (h : Spec.decideMany byte len n c = none) :
    ∃ j bits c', j < n ∧ Spec.decideMany byte len j c = some (bits, c') ∧
      Spec.decideBit byte len 128 c' = none := by
  induction n generalizing c with
  | zero => cases h
  | succ n ih =>
    cases hfirst : Spec.decideBit byte len 128 c with
    | none => exact ⟨0, [], c, Nat.succ_pos n, rfl, hfirst⟩
    | some p =>
      obtain ⟨b, d⟩ := p
      have hrest : Spec.decideMany byte len n d = none := by
        rw [Spec.decideMany, hfirst] at h
        exact Option.map_eq_none_iff.1 h
      obtain ⟨j, bits, c', hj, hmade, hstarved⟩ := ih hrest
      exact ⟨j + 1, b :: bits, c', Nat.succ_lt_succ hj,
        decideMany_succ.2 ⟨b, d, bits, hfirst, hmade, rfl⟩, hstarved⟩

/-- Equiprobable decisions are all made when the window holds the bits they can need: each takes
at most one (40_range_decoder.md R82). -/
theorem decideMany_completes (hc : Fits c)
    (henough : n = 0 ∨ (n : Int) - 1 - c.count ≤ 8 * ((len - c.pos : Nat) : Int)) :
    ∃ bits c', Spec.decideMany byte len n c = some (bits, c') := by
  induction n generalizing c with
  | zero => exact ⟨[], c, rfl⟩
  | succ n ih =>
    have hneed : (n : Int) - c.count ≤ 8 * ((len - c.pos : Nat) : Int) := by
      have := henough.resolve_left n.succ_ne_zero
      omega
    cases hfilled : filled byte len c with
    | none =>
      obtain ⟨hneg, hend⟩ := filled_eq_none.1 hfilled
      omega
    | some d =>
      have hfirst : Spec.decideBit byte len 128 c = some (Spec.decideFilled 128 d) := by
        rw [decideBit_eq_map, hfilled]
        rfl
      obtain ⟨hfits, hnonneg⟩ := filled_fits hfilled hc
      have hleft : (n : Int) - d.count ≤ 8 * ((len - d.pos : Nat) : Int) := by
        obtain ⟨-, rfl⟩ | ⟨hneg, hpos, rfl⟩ := filled_eq_some hfilled
        · exact hneed
        · dsimp only
          omega
      have hshift := shiftOf_even_le_one hfits.range_ge
      have hnorm := decideFilled_normalized (prob := 128) (by decide) hfits hnonneg
      obtain ⟨bits, c', hrest⟩ := ih hnorm.fits
        (.inr (by rw [decideFilled_count, decideFilled_pos]; omega))
      exact ⟨_, c', decideMany_succ.2 ⟨_, _, bits, hfirst, hrest, rfl⟩⟩

/-! ### Bits as a number (40_range_decoder.md R73) -/

theorem msbFirst_from (v : Nat) (bits : List Bool) :
    bits.foldl (fun v b => 2 * v + b.toNat) v = v * 2 ^ bits.length + Spec.msbFirst bits := by
  induction bits generalizing v with
  | nil => simp [Spec.msbFirst]
  | cons b bits ih =>
    rw [Spec.msbFirst, List.foldl_cons, List.foldl_cons, ih, ih (2 * 0 + b.toNat), List.length_cons]
    ring

theorem msbFirst_cons (b : Bool) (bits : List Bool) :
    Spec.msbFirst (b :: bits) = b.toNat * 2 ^ bits.length + Spec.msbFirst bits := by
  rw [Spec.msbFirst, List.foldl_cons, msbFirst_from]
  simp

theorem msbFirst_lt (bits : List Bool) : Spec.msbFirst bits < 2 ^ bits.length := by
  induction bits with
  | nil => decide
  | cons b bits ih =>
    have hb : b.toNat * 2 ^ bits.length ≤ 1 * 2 ^ bits.length :=
      Nat.mul_le_mul_right _ (Bool.toNat_le b)
    rw [msbFirst_cons, List.length_cons, pow_succ]
    omega

end Sequences

end Sys2Proof.Proofs.CoderNumbers
end

section
/-!
PROOFS. The statements about the range decoder (40_range_decoder.md): the machine's decisions are
those of the formulas on numbers, and each command makes its decisions after its checks.
-/

namespace Sys2Proof.Proofs.RangeDecoder

open Sys2Proof.Machine Sys2Proof.Proofs.CoderNumbers

/-! ### The machine's decoder and its numbers -/

section Simulation

variable {s t : State} {prob : Nat} {b : Bool} {c : Spec.Coder}

@[simp] theorem coder_withRes (s : State) (b : Block) :
    Spec.coder (s.withRes b) = Spec.coder s := rfl

@[simp] theorem coder_withPred (s : State) (b : Block) :
    Spec.coder (s.withPred b) = Spec.coder s := rfl

@[simp] theorem coder_withOut (s : State) (b : Block) :
    Spec.coder (s.withOut b) = Spec.coder s := rfl

@[simp] theorem coder_withRef (s : State) (r : RefLine) :
    Spec.coder (s.withRef r) = Spec.coder s := rfl

theorem coder_fits (hr : 128 ≤ s.range.toNat) : Fits (Spec.coder s) where
  range_ge := hr
  range_lt := s.range.isLt
  count_ge := BitVec.le_toInt s.count
  count_le := Int.le_of_lt_add_one (BitVec.toInt_lt (x := s.count))

theorem valueSound_coder : ValueSound (Spec.coder s) ↔ s.ValueInv ∧ Spec.RangeAligned s :=
  ⟨fun h => ⟨h.below, h.aligned⟩, fun ⟨hbelow, haligned⟩ => ⟨hbelow, haligned⟩⟩

theorem windowByte_lt (s : State) (p : Nat) : Spec.windowByte s p < 256 := BitVec.isLt _

theorem windowByte_bsPos (s : State) : Spec.windowByte s s.bsPos.toNat = (nextByte s).toNat := by
  rw [Spec.windowByte, nextByte, BitVec.ofNat_toNat, BitVec.setWidth_eq]

/-- Where the machine refills on entry, the numbers do, to the numbers of the state it leaves. -/
theorem filled_coder_of_refill (hneg : s.count.toInt < 0) (h : refill s = some t) :
    filled (Spec.windowByte s) s.bsLen.toNat (Spec.coder s) = some (Spec.coder t) := by
  obtain ⟨hpos, rfl⟩ := refill_eq_some.1 h
  have hlt : s.bsPos.toNat < s.bsLen.toNat := hpos
  have hnext : (s.bsPos + 1#32).toNat = s.bsPos.toNat + 1 := by
    have := s.bsLen.isLt
    rw [BitVec.toNat_add]
    exact Nat.mod_eq_of_lt (by simp; omega)
  rw [filled, if_pos (by exact hneg), Spec.refill, if_neg (by exact Nat.not_le.2 hlt)]
  simp only [Spec.coder, windowByte_bsPos, refill_value, refill_count hneg, hnext]

/-- Numbers written into VALUE, RANGE and COUNT. -/
def withNumbers (s : State) (c : Spec.Coder) : State :=
  s.withCoder (BitVec.ofNat 32 c.value) (BitVec.ofNat 8 c.range) (BitVec.ofInt 4 c.count)

theorem coder_withNumbers (hvalue : c.value < 2 ^ 32) (hfits : Fits c)
    (hpos : c.pos = s.bsPos.toNat) : Spec.coder (withNumbers s c) = c := by
  have hcount : (BitVec.ofInt 4 c.count).toInt = c.count := by
    have hge := hfits.count_ge
    have hle := hfits.count_le
    rw [BitVec.toInt_ofInt, Int.bmod_def]
    omega
  have hrange : c.range < 2 ^ 8 := hfits.range_lt
  simp only [Spec.coder, withNumbers, State.withCoder_value, State.withCoder_range,
    State.withCoder_count, State.withCoder_bsPos, BitVec.toNat_ofNat, Nat.mod_eq_of_lt hvalue,
    Nat.mod_eq_of_lt hrange, hcount, ← hpos]

/-- Steps 2 and 3 of the machine write the numbers that the formulas give. -/
theorem decideFilled_eq_withNumbers (hr : 128 ≤ s.range.toNat) (hp : prob ≤ 255)
    (hnonneg : 0 ≤ s.count.toInt) :
    decideFilled prob s = .bit (Spec.decideFilled prob (Spec.coder s)).1
      (withNumbers s (Spec.decideFilled prob (Spec.coder s)).2) := by
  have hcount : s.count.toNat = s.count.toInt.toNat := by
    rw [(count_nonneg hnonneg).1, Int.toNat_natCast]
  have hvalue : BitVec.ofNat 32 (Spec.coder s).value = s.value := by simp [Spec.coder]
  have hmachine := Machine.decideFilled_eq hr hp
  simp only [decide_eq_true_eq, hcount] at hmachine
  rw [hmachine, decideFilled_parts, withNumbers, State.withCoder, apply_ite (BitVec.ofNat 32),
    hvalue]
  rfl

/-- Steps 2 and 3 of the machine are those on numbers. -/
theorem decideFilled_of_numbers (hr : 128 ≤ s.range.toNat) (hp : prob ≤ 255)
    (hnonneg : 0 ≤ s.count.toInt) (h : Spec.decideFilled prob (Spec.coder s) = (b, c)) :
    ∃ t, decideFilled prob s = .bit b t ∧ Spec.coder t = c := by
  have hle := decideFilled_value_le prob (Spec.coder s)
  have hnorm := decideFilled_normalized hp (coder_fits hr) hnonneg
  have hmachine := decideFilled_eq_withNumbers hr hp hnonneg
  rw [h] at hle hnorm hmachine
  exact ⟨_, hmachine, coder_withNumbers (hle.trans_lt s.value.isLt) hnorm.fits
    (congrArg (·.2.pos) h.symm)⟩

/-- The next decision of a state, on its numbers and the bytes of its window. -/
abbrev nextDecision (prob : Nat) (s : State) : Option (Bool × Spec.Coder) :=
  Spec.decideBit (Spec.windowByte s) s.bsLen.toNat prob (Spec.coder s)

theorem nextDecision_eq_none : nextDecision prob s = none ↔ ¬ Spec.CanDecide s := by
  rw [decideBit_eq_none, Spec.CanDecide, not_or, not_le, not_lt]
  rfl

/-- A decision that the numbers make, the machine makes. -/
theorem decideBit_of_some (hr : 128 ≤ s.range.toNat) (hp : prob ≤ 255)
    (h : nextDecision prob s = some (b, c)) :
    ∃ t, decideBit prob s = .bit b t ∧ Spec.coder t = c := by
  rw [nextDecision, decideBit_eq_map, Option.map_eq_some_iff] at h
  obtain ⟨d, hfilled, hdecide⟩ := h
  rcases lt_or_ge s.count.toInt 0 with hneg | hnonneg
  · cases hrefill : refill s with
    | none =>
      have hend : filled (Spec.windowByte s) s.bsLen.toNat (Spec.coder s) = none :=
        filled_eq_none.2 ⟨hneg, refill_eq_none.1 hrefill⟩
      cases hend.symm.trans hfilled
    | some u =>
      have hcoder := filled_coder_of_refill hneg hrefill
      obtain rfl : Spec.coder u = d := Option.some.inj (hcoder.symm.trans hfilled)
      obtain ⟨hfits, hnonneg⟩ := filled_fits hcoder (coder_fits hr)
      rw [decideBit_refilled hneg hrefill]
      exact decideFilled_of_numbers hfits.range_ge hp hnonneg hdecide
  · obtain ⟨-, rfl⟩ | ⟨hneg, -⟩ := filled_eq_some hfilled
    · rw [decideBit_filled hnonneg]
      exact decideFilled_of_numbers hr hp hnonneg hdecide
    · exact absurd hneg (not_lt.2 hnonneg)

/-- A decision that is starved on the numbers is starved in the machine (R67). -/
theorem decideBit_of_none (h : nextDecision prob s = none) : decideBit prob s = .underflow := by
  obtain ⟨hneg, hend⟩ := decideBit_eq_none.1 h
  exact decideBit_starved hneg hend prob

theorem deciding_of_none (h : nextDecision prob s = none) (i : Instr) (result : Bool → Word) :
    deciding i prob result s = .next (s.raise .coderUnderflow (encode i)) := by
  rw [deciding, decideBit_of_none h]

/-- A deciding command completes when its decision can be made, with RESULT from the bit (R67, R70,
R71, R74). -/
theorem deciding_of_canDecide (hr : 128 ≤ s.range.toNat) (hp : prob ≤ 255)
    (hcan : Spec.CanDecide s) (i : Instr) (result : Bool → Word) :
    ∃ t b, deciding i prob result s = .next t ∧ nextDecision prob s = some (b, Spec.coder t) ∧
      t.result = result b ∧
      t = { s with value := t.value, range := t.range, count := t.count, bsPos := t.bsPos,
                   result := t.result } := by
  cases hd : nextDecision prob s with
  | none => exact absurd hcan (nextDecision_eq_none.1 hd)
  | some p =>
    obtain ⟨b, c⟩ := p
    obtain ⟨u, hu, rfl⟩ := decideBit_of_some hr hp hd
    refine ⟨u.withResult (result b), b, by rw [deciding, hu], rfl, rfl, ?_⟩
    rw [decideBit_frame hu]
    rfl

/-- Deciding commands with one probability and one use of the bit differ in the word that a fault
records (R71). -/
theorem deciding_other_word (hr : 128 ≤ s.range.toNat) (hp : prob ≤ 255) (hf : s.fault = 0#8)
    (i j : Instr) (result : Bool → Word) :
    ∃ t u, deciding i prob result s = .next t ∧ deciding j prob result s = .next u ∧
      t = { u with faultInfo := if u.fault = 0#8 then u.faultInfo else encode i } := by
  cases hd : nextDecision prob s with
  | none => exact ⟨_, _, deciding_of_none hd i result, deciding_of_none hd j result, rfl⟩
  | some p =>
    obtain ⟨b, c⟩ := p
    obtain ⟨u, hu, -⟩ := decideBit_of_some hr hp hd
    have hfault : (u.withResult (result b)).fault = 0#8 := by
      rw [decideBit_frame hu]
      exact hf
    refine ⟨u.withResult (result b), u.withResult (result b), by rw [deciding, hu],
      by rw [deciding, hu], ?_⟩
    rw [if_pos hfault]

/-! ### A run of equiprobable decisions (40_range_decoder.md R73) -/

/-- The next `n` equiprobable decisions of a state, on its numbers and the bytes of its window. -/
abbrev nextDecisions (n : Nat) (s : State) : Option (List Bool × Spec.Coder) :=
  Spec.decideMany (Spec.windowByte s) s.bsLen.toNat n (Spec.coder s)

/-- A decision leaves the window as it is. -/
theorem window_of_decideBit (h : decideBit prob s = .bit b t) :
    Spec.windowByte t = Spec.windowByte s ∧ t.bsLen = s.bsLen := by
  rw [decideBit_frame h]
  exact ⟨rfl, rfl⟩

/-- A bit joins the number below the bits decided before it. -/
theorem or_shiftLeft_eq_add {v n : Nat} (hv : 2 ^ (n + 1) ∣ v) (b : Bool) :
    v ||| b.toNat <<< n = v + b.toNat * 2 ^ n := by
  obtain ⟨k, rfl⟩ := hv
  have hlt : b.toNat <<< n < 2 ^ (n + 1) := by
    rw [Nat.shiftLeft_eq, pow_succ]
    have := Nat.mul_le_mul_right (2 ^ n) (Bool.toNat_le b)
    have := Nat.two_pow_pos n
    omega
  rw [← Nat.two_pow_add_eq_or_of_lt hlt, Nat.shiftLeft_eq]

/-- A run that the numbers make, the machine makes; its bits join the number `v` decided before
them, whose low `n` bits are free. -/
theorem decideBits_of_some {n v : Nat} {bits : List Bool} (hr : 128 ≤ s.range.toNat)
    (hv : 2 ^ n ∣ v) (h : nextDecisions n s = some (bits, c)) :
    ∃ t, decideBits n v s = .done (v + Spec.msbFirst bits) t ∧ Spec.coder t = c := by
  induction n generalizing v s bits with
  | zero =>
    obtain ⟨rfl, rfl⟩ := decideMany_zero.1 h
    exact ⟨s, rfl, rfl⟩
  | succ n ih =>
    obtain ⟨b, d, rest, hfirst, hrest, rfl⟩ := decideMany_succ.1 h
    obtain ⟨u, hu, rfl⟩ := decideBit_of_some hr (by decide) hfirst
    obtain ⟨hwindow, hlen⟩ := window_of_decideBit hu
    have hnorm := decideBit_normalized hfirst (by decide) (coder_fits hr)
    rw [← hwindow, ← hlen] at hrest
    have hdvd : 2 ^ n ∣ v ||| b.toNat <<< n := by
      rw [or_shiftLeft_eq_add hv]
      exact dvd_add ((pow_dvd_pow 2 n.le_succ).trans hv) (Nat.dvd_mul_left _ _)
    obtain ⟨t, ht, hcoder⟩ := ih hnorm.range_ge hdvd hrest
    refine ⟨t, ?_, hcoder⟩
    rw [decideBits, equiprobable, hu]
    dsimp only
    rw [ht, or_shiftLeft_eq_add hv, msbFirst_cons, decideMany_length hrest, Nat.add_assoc]

/-- A run that is starved after `j` decisions stops with the numbers of those. -/
theorem decideBits_of_starved {n j v : Nat} {bits : List Bool} (hr : 128 ≤ s.range.toNat)
    (hj : j < n) (h : nextDecisions j s = some (bits, c))
    (hstarved : Spec.decideBit (Spec.windowByte s) s.bsLen.toNat 128 c = none) :
    ∃ t, decideBits n v s = .starved t ∧ Spec.coder t = c := by
  induction n generalizing v s j bits with
  | zero => exact absurd hj (Nat.not_lt_zero j)
  | succ n ih =>
    rw [decideBits, equiprobable]
    cases j with
    | zero =>
      obtain ⟨-, rfl⟩ := decideMany_zero.1 h
      rw [decideBit_of_none hstarved]
      exact ⟨s, rfl, rfl⟩
    | succ j =>
      obtain ⟨b, d, rest, hfirst, hrest, -⟩ := decideMany_succ.1 h
      obtain ⟨u, hu, rfl⟩ := decideBit_of_some hr (by decide) hfirst
      obtain ⟨hwindow, hlen⟩ := window_of_decideBit hu
      have hnorm := decideBit_normalized hfirst (by decide) (coder_fits hr)
      rw [← hwindow, ← hlen] at hrest hstarved
      rw [hu]
      exact ih hnorm.range_ge (Nat.lt_of_succ_lt_succ hj) hrest hstarved

theorem bitsCommand_of_none {n : Nat} (h : nextDecision 128 s = none) (hn : 1 ≤ n) (i : Instr) :
    bitsCommand i n s = .next (s.raise .coderUnderflow (encode i)) := by
  obtain ⟨k, rfl⟩ := Nat.exists_eq_add_of_le' hn
  rw [bitsCommand, decideBits, equiprobable, decideBit_of_none h]

/-- RESULT holds the number of up to 32 bits. -/
theorem msbFirst_ofNat {bits : List Bool} (h : bits.length ≤ 32) :
    (BitVec.ofNat 32 (Spec.msbFirst bits)).toNat = Spec.msbFirst bits := by
  rw [BitVec.toNat_ofNat]
  exact Nat.mod_eq_of_lt ((msbFirst_lt bits).trans_le (Nat.pow_le_pow_right (by decide) h))

theorem bitsCommand_of_some {n : Nat} {bits : List Bool} (hr : 128 ≤ s.range.toNat) (i : Instr)
    (h : nextDecisions n s = some (bits, c)) :
    ∃ t, bitsCommand i n s = .next t ∧ Spec.coder t = c ∧
      t.result = BitVec.ofNat 32 (Spec.msbFirst bits) ∧
      t = { s with value := t.value, range := t.range, count := t.count, bsPos := t.bsPos,
                   result := t.result } := by
  obtain ⟨u, hu, hcoder⟩ := decideBits_of_some hr (dvd_zero _) h
  rw [Nat.zero_add] at hu
  refine ⟨u.withResult (BitVec.ofNat 32 (Spec.msbFirst bits)), by rw [bitsCommand, hu], hcoder,
    rfl, ?_⟩
  rw [decideBits_done_frame hu]
  rfl

theorem bitsCommand_of_starved {n j : Nat} {bits : List Bool} (hr : 128 ≤ s.range.toNat)
    (i : Instr) (hj : j < n) (h : nextDecisions j s = some (bits, c))
    (hstarved : Spec.decideBit (Spec.windowByte s) s.bsLen.toNat 128 c = none) :
    ∃ t, bitsCommand i n s = .next t ∧ Spec.coder t = c ∧
      t = { s with value := t.value, range := t.range, count := t.count, bsPos := t.bsPos,
                   fault := 1#8, faultInfo := encode i } := by
  obtain ⟨u, hu, hcoder⟩ := decideBits_of_starved (v := 0) hr hj h hstarved
  refine ⟨u.raise .coderUnderflow (encode i), by rw [bitsCommand, hu], hcoder, ?_⟩
  rw [decideBits_starved_frame hu]
  rfl

end Simulation

/-! ### RD_INIT (40_range_decoder.md R65) -/

/-- On a window that is not empty RD_INIT's refill fetches the byte at offset 0. -/
theorem initDecoder_of_nonempty {s : State} (h : s.bsLen ≠ 0#32) (i : Instr) :
    initDecoder i s = .next
      { s with value := (memRead s s.bsBase).setWidth 32, range := 255#8, count := 0#4,
               bsPos := 1#32, rdValid := true } := by
  have hpos : 0#32 < s.bsLen := by bv_omega
  have hbyte : nextByte ((s.withCoder 0#32 255#8 (-8#4)).withBsPos 0#32) = memRead s s.bsBase :=
    congrArg (memRead s) (BitVec.add_zero s.bsBase)
  rw [initDecoder, if_neg h, refill_eq_some.2 ⟨hpos, rfl⟩, hbyte]
  simp [State.withCoder, State.withBsPos, State.withRdValid]

/-! ### The commands after their checks -/

section Ready

variable {s : State}

theorem exec_rdInit (hf : s.fault = 0#8) : exec .rdInit s = initDecoder .rdInit s :=
  checked_ready hf rfl _

theorem exec_rdRestore (hf : s.fault = 0#8) : exec .rdRestore s =
    if s.snapRange.toNat < 128 then .next (s.raise .badSnapshot (encode .rdRestore))
    else .next ((s.withCoder s.snapValue s.snapRange s.snapCount).withRdValid true) := by
  rw [exec, execRdRestore, checked_ready hf rfl]

/-- RD_SIGNED's RESULT from the bit (40_range_decoder.md R74). -/
def signedResult (v : BitVec 16) (b : Bool) : Word :=
  if b then 0#32 - signedOperand v else signedOperand v

/-- The commands of check (3), with what each does after it (40_range_decoder.md R64). -/
inductive NeedsDecoder : Instr → (State → StepOutcome) → Prop where
  | rdDecide (prob : BitVec 8) :
      NeedsDecoder (.rdDecide prob) (deciding (.rdDecide prob) prob.toNat bitWord)
  | rdDecideEq : NeedsDecoder .rdDecideEq (deciding .rdDecideEq 128 bitWord)
  | rdBits (n : BitVec 6) : NeedsDecoder (.rdBits n) (bitsCommand (.rdBits n) n.toNat)
  | rdSigned (v : BitVec 16) :
      NeedsDecoder (.rdSigned v) (deciding (.rdSigned v) 128 (signedResult v))
  | rdSave : NeedsDecoder .rdSave fun s => .next (s.withSnap s.value s.range s.count)

variable {i : Instr} {run : State → StepOutcome}

theorem NeedsDecoder.exec_eq (h : NeedsDecoder i run) (s : State) :
    exec i s = checked i s fun s => needsDecoder i s run := by
  cases h <;> rfl

theorem NeedsDecoder.exec_ready (h : NeedsDecoder i run) (hw : i.WellFormed)
    (hf : s.fault = 0#8) (hv : s.rdValid = true) : exec i s = run s := by
  rw [h.exec_eq, checked_ready hf hw, needsDecoder_valid hv]

theorem NeedsDecoder.exec_invalid (h : NeedsDecoder i run) (hw : i.WellFormed)
    (hf : s.fault = 0#8) (hv : s.rdValid = false) :
    exec i s = .next (s.raise .rdNotInit (encode i)) := by
  rw [h.exec_eq, checked_ready hf hw, needsDecoder_invalid hv]

theorem exec_rdDecide {prob : BitVec 8} (hf : s.fault = 0#8) (hv : s.rdValid = true) :
    exec (.rdDecide prob) s = deciding (.rdDecide prob) prob.toNat bitWord s :=
  (NeedsDecoder.rdDecide prob).exec_ready rfl hf hv

theorem exec_rdDecideEq (hf : s.fault = 0#8) (hv : s.rdValid = true) :
    exec .rdDecideEq s = deciding .rdDecideEq 128 bitWord s :=
  NeedsDecoder.rdDecideEq.exec_ready rfl hf hv

theorem exec_rdSigned {v : BitVec 16} (hf : s.fault = 0#8) (hv : s.rdValid = true) :
    exec (.rdSigned v) s = deciding (.rdSigned v) 128 (signedResult v) s :=
  (NeedsDecoder.rdSigned v).exec_ready rfl hf hv

theorem exec_rdBits {n : BitVec 6} (hn : n.toNat ≤ 32) (hf : s.fault = 0#8)
    (hv : s.rdValid = true) : exec (.rdBits n) s = bitsCommand (.rdBits n) n.toNat s :=
  (NeedsDecoder.rdBits n).exec_ready (decide_eq_true hn) hf hv

end Ready

/-! ### The decisions of a command -/

/-- The probabilities of the decisions a command makes, in order. -/
def probsOf : Instr → List Nat
  | .rdDecide prob => [prob.toNat]
  | .rdDecideEq => [128]
  | .rdSigned _ => [128]
  | .rdBits n => List.replicate n.toNat 128
  | _ => []

theorem length_probsOf (i : Instr) : (probsOf i).length = Spec.decisions i := by
  cases i with
  | rdBits n => exact List.length_replicate
  | _ => rfl

theorem probsOf_le (i : Instr) : ∀ p ∈ probsOf i, p ≤ 255 := by
  intro p hp
  cases i with
  | rdDecide prob =>
    obtain rfl := List.mem_singleton.1 hp
    exact Nat.le_of_lt_succ prob.isLt
  | rdDecideEq | rdSigned =>
    obtain rfl := List.mem_singleton.1 hp
    decide
  | rdBits n =>
    obtain rfl := List.eq_of_mem_replicate hp
    decide
  | _ => cases hp

/-- The decoder of `t` comes by the first decisions of the command, by all of them when `t` records
no fault. -/
def DecidesTo (i : Instr) (s t : State) : Prop :=
  ∃ k, Decides (Spec.windowByte s) s.bsLen.toNat ((probsOf i).take k) (Spec.coder s)
      (Spec.coder t) ∧
    (t.fault = 0#8 → k = (probsOf i).length)

/-- The decoder of an outcome's next state comes by decisions of the command. -/
def MakesDecisions (i : Instr) (s : State) (o : StepOutcome) : Prop :=
  ∀ t, o = .next t → DecidesTo i s t

section Inversion

variable {i : Instr} {s t : State} {prob : Nat} {run : State → StepOutcome}

theorem MakesDecisions.next (h : DecidesTo i s t) : MakesDecisions i s (.next t) := by
  rintro _ ⟨⟩
  exact h

theorem code_ne_zero (x : FaultCode) : x.code ≠ 0#8 := by
  cases x <;> decide

/-- No decision, in a state that records a fault. -/
theorem MakesDecisions.stopped (hcoder : Spec.coder t = Spec.coder s) (hfault : t.fault ≠ 0#8) :
    MakesDecisions i s (.next t) :=
  .next ⟨0, hcoder ▸ .none _, fun h => absurd h hfault⟩

theorem MakesDecisions.raised (x : FaultCode) : MakesDecisions i s (.next (s.raise x (encode i))) :=
  .stopped rfl (code_ne_zero x)

/-- A command that decides nothing and leaves the decoder alone. -/
theorem MakesDecisions.kept (hprobs : probsOf i = []) (hcoder : Spec.coder t = Spec.coder s) :
    MakesDecisions i s (.next t) :=
  .next ⟨0, hcoder ▸ .none _, fun _ => by rw [hprobs, List.length_nil]⟩

theorem MakesDecisions.all
    (h : Decides (Spec.windowByte s) s.bsLen.toNat (probsOf i) (Spec.coder s) (Spec.coder t)) :
    MakesDecisions i s (.next t) :=
  .next ⟨(probsOf i).length, List.take_length.symm ▸ h, fun _ => rfl⟩

theorem MakesDecisions.checked (h : MakesDecisions i s (run s)) :
    MakesDecisions i s (checked i s run) := by
  rcases eq_or_ne s.fault 0#8 with hf | hf
  · cases hw : i.wf with
    | true => rwa [checked_ready hf hw]
    | false =>
      rw [checked_illFormed hf hw]
      exact .raised _
  · rw [checked_faulted hf]
    exact .stopped rfl hf

theorem MakesDecisions.needsDecoder (h : MakesDecisions i s (run s)) :
    MakesDecisions i s (needsDecoder i s run) := by
  cases hv : s.rdValid with
  | true => rwa [needsDecoder_valid hv]
  | false =>
    rw [needsDecoder_invalid hv]
    exact .raised _

theorem deciding_makesDecisions (hr : 128 ≤ s.range.toNat) (hprobs : probsOf i = [prob])
    (result : Bool → Word) : MakesDecisions i s (deciding i prob result s) := by
  have hp : prob ≤ 255 := probsOf_le i prob (by simp [hprobs])
  by_cases hcan : Spec.CanDecide s
  · obtain ⟨t, b, ht, hdecision, -⟩ := deciding_of_canDecide hr hp hcan i result
    rw [ht]
    exact .all (hprobs ▸ .one hdecision)
  · rw [deciding_of_none (nextDecision_eq_none.2 hcan)]
    exact .raised _

theorem bitsCommand_makesDecisions {n : Nat} (hr : 128 ≤ s.range.toNat)
    (hprobs : probsOf i = List.replicate n 128) : MakesDecisions i s (bitsCommand i n s) := by
  cases hd : nextDecisions n s with
  | some p =>
    obtain ⟨bits, c⟩ := p
    obtain ⟨t, ht, rfl, -, -⟩ := bitsCommand_of_some hr i hd
    rw [ht]
    exact .all (hprobs ▸ decideMany_decides hd)
  | none =>
    obtain ⟨j, bits, c, hj, hmade, hstarved⟩ := decideMany_eq_none hd
    obtain ⟨t, ht, rfl, hframe⟩ := bitsCommand_of_starved hr i hj hmade hstarved
    have htake : (probsOf i).take j = List.replicate j 128 := by
      rw [hprobs, List.take_replicate, Nat.min_eq_left hj.le]
    have hfault : t.fault ≠ 0#8 :=
      ne_of_eq_of_ne (congrArg State.fault hframe) (code_ne_zero .coderUnderflow)
    rw [ht]
    exact .next ⟨j, htake ▸ decideMany_decides hmade, fun h => absurd h hfault⟩

theorem NeedsDecoder.makesDecisions (h : NeedsDecoder i run) (hr : 128 ≤ s.range.toNat) :
    MakesDecisions i s (exec i s) := by
  rw [h.exec_eq]
  refine .checked (.needsDecoder ?_)
  cases h with
  | rdDecide prob => exact deciding_makesDecisions hr rfl _
  | rdDecideEq => exact deciding_makesDecisions hr rfl _
  | rdSigned v => exact deciding_makesDecisions hr rfl _
  | rdBits n => exact bitsCommand_makesDecisions hr rfl
  | rdSave => exact .kept rfl rfl

/-- IP_FILTER writes REF and IP_FILT (42_intra_prediction.md R105). -/
theorem execIpFilter_makesDecisions (size : BlockSize) (c : Component) (mode : BitVec 6)
    (s : State) : MakesDecisions (.ipFilter size c mode) s (execIpFilter size c mode s) := by
  refine .checked ?_
  split
  · split <;> exact .kept rfl rfl
  · exact .kept rfl rfl

/-- Every command but those that load or reset the decoder: one arm per constructor. -/
theorem exec_makesDecisions (hr : 128 ≤ s.range.toNat) (hinit : i ≠ .rdInit)
    (hrestore : i ≠ .rdRestore) (hreset : i ≠ .softReset) : MakesDecisions i s (exec i s) := by
  cases i with
  | rdInit => exact absurd rfl hinit
  | rdRestore => exact absurd rfl hrestore
  | softReset => exact absurd rfl hreset
  | rdDecide prob => exact (NeedsDecoder.rdDecide prob).makesDecisions hr
  | rdDecideEq => exact NeedsDecoder.rdDecideEq.makesDecisions hr
  | rdBits n => exact (NeedsDecoder.rdBits n).makesDecisions hr
  | rdSigned v => exact (NeedsDecoder.rdSigned v).makesDecisions hr
  | rdSave => exact NeedsDecoder.rdSave.makesDecisions hr
  | ipFilter size c mode => exact execIpFilter_makesDecisions size c mode s
  | nop | itDct | itDst4 | itSkip | itBypass | ipSubst | ipPlanar | ipDc | ipAng | ipRecon =>
    simp only [exec, execNop, execItDct, execItDst4, execItSkip, execItBypass, execIpSubst,
      execIpPlanar, execIpDc, execIpAng, execIpRecon]
    exact .checked (.kept rfl (by simp))

/-- A command that ends without a fault has made all its decisions. -/
theorem decides_of_exec (hr : 128 ≤ s.range.toNat) (hinit : i ≠ .rdInit)
    (hrestore : i ≠ .rdRestore) (hreset : i ≠ .softReset) (hexec : exec i s = .next t)
    (hfault : t.fault = 0#8) :
    Decides (Spec.windowByte s) s.bsLen.toNat (probsOf i) (Spec.coder s) (Spec.coder t) := by
  obtain ⟨k, hdecides, hall⟩ := exec_makesDecisions hr hinit hrestore hreset t hexec
  rwa [hall hfault, List.take_length] at hdecides

end Inversion

/-! ### RESULT and FAULT_INFO -/

theorem bitWord_toNat (b : Bool) : (bitWord b).toNat = b.toNat := by
  cases b <;> rfl

/-- RD_SIGNED's RESULT as a number: the negation is done in 32 bits and does not wrap (R74). -/
theorem signedResult_toInt (v : BitVec 16) (b : Bool) :
    (signedResult v b).toInt = if b then -v.toInt else v.toInt := by
  have hoperand : (signedOperand v).toInt = v.toInt := BitVec.toInt_signExtend_of_le (by decide)
  have hge : -2 ^ 15 ≤ v.toInt := BitVec.le_toInt v
  have hlt : v.toInt < 2 ^ 15 := BitVec.toInt_lt
  cases b with
  | false => exact hoperand
  | true =>
    change (0#32 - signedOperand v).toInt = -v.toInt
    rw [BitVec.toInt_sub, hoperand, Int.bmod_def]
    simp only [BitVec.toInt_zero]
    omega

/-- The words of the commands with an operand at bit 0 (30_encoding.md R50 to R52). -/
theorem encode_rdDecide (prob : BitVec 8) :
    encode (.rdDecide prob) = 0x02000000#32 ||| prob.setWidth 32 := by
  simp [encode, wordP, field]

theorem encode_rdBits (n : BitVec 6) :
    encode (.rdBits n) = 0x04000000#32 ||| n.setWidth 32 := by
  simp [encode, wordB, field]

theorem encode_rdSigned (v : BitVec 16) :
    encode (.rdSigned v) = 0x05000000#32 ||| v.setWidth 32 := by
  simp [encode, wordS, field]

/-! ### The obligations -/

/-- Settles O26: a command's decisions keep the invariant (`Decides.sound`), and VALUE is below
2^15 with it. -/
theorem commandsKeepValueInvariant : Obligations.CommandsKeepValueInvariant := by
  intro i s t hr hvalue haligned hinit hrestore hreset hexec
  obtain ⟨k, hdecides, -⟩ := exec_makesDecisions hr hinit hrestore hreset t hexec
  have hprobs : ∀ p ∈ (probsOf i).take k, p ≤ 255 :=
    fun p hp => probsOf_le i p (List.mem_of_mem_take hp)
  have hsound := hdecides.sound hprobs (windowByte_lt s) (coder_fits hr)
    (valueSound_coder.2 ⟨hvalue, haligned⟩)
  obtain ⟨hvalue', haligned'⟩ := valueSound_coder.1 hsound
  exact ⟨hvalue', haligned', hsound.value_lt (hdecides.fits hprobs (coder_fits hr))⟩

/-- Settles O10: check (3) of R64. -/
theorem rdNotInitWithoutDecoder : Obligations.RdNotInitWithoutDecoder := by
  intro i s hw hf hv hi
  obtain ⟨prob, rfl⟩ | rfl | ⟨n, rfl⟩ | ⟨v, rfl⟩ | rfl := hi
  · exact (NeedsDecoder.rdDecide prob).exec_invalid hw hf hv
  · exact NeedsDecoder.rdDecideEq.exec_invalid hw hf hv
  · exact (NeedsDecoder.rdBits n).exec_invalid hw hf hv
  · exact (NeedsDecoder.rdSigned v).exec_invalid hw hf hv
  · exact NeedsDecoder.rdSave.exec_invalid hw hf hv

/-- Settles O11: the first decision is starved, and the machine's state is the one before it. -/
theorem starvedFirstDecisionUnderflows : Obligations.StarvedFirstDecisionUnderflows := by
  intro i s hw hdecisions hf hv hneg hend
  have hstarved (prob : Nat) : nextDecision prob s = none := decideBit_eq_none.2 ⟨hneg, hend⟩
  cases i with
  | rdDecide prob => exact (exec_rdDecide hf hv).trans (deciding_of_none (hstarved _) _ _)
  | rdDecideEq => exact (exec_rdDecideEq hf hv).trans (deciding_of_none (hstarved _) _ _)
  | rdSigned v => exact (exec_rdSigned hf hv).trans (deciding_of_none (hstarved _) _ _)
  | rdBits n =>
    exact (exec_rdBits (of_decide_eq_true hw) hf hv).trans
      (bitsCommand_of_none (hstarved _) hdecisions _)
  | _ => exact absurd hdecisions (Nat.not_succ_le_zero 0)

/-- Settles O16: the refill of RD_INIT fetches the byte at offset 0 of the window. -/
theorem rdInitLoadsFirstByte : Obligations.RdInitLoadsFirstByte := by
  intro s hf
  rw [exec_rdInit hf]
  refine ⟨fun hlen => ?_, fun hlen => ?_⟩
  · exact initDecoder_of_nonempty hlen _
  · rw [initDecoder, if_pos hlen]
    rfl

/-- Settles O17: `deciding_of_canDecide` for the command's probability. -/
theorem rdDecideMakesDecision : Obligations.RdDecideMakesDecision := by
  intro prob s hf hv hr
  rw [exec_rdDecide hf hv, ← encode_rdDecide]
  refine ⟨fun hcan => ?_, fun hstarved => ?_⟩
  · obtain ⟨t, b, ht, hdecision, hresult, hframe⟩ :=
      deciding_of_canDecide hr (Nat.le_of_lt_succ prob.isLt) hcan (.rdDecide prob) bitWord
    exact ⟨t, b, ht, hdecision, by rw [hresult, bitWord_toNat], hframe⟩
  · exact deciding_of_none (nextDecision_eq_none.2 hstarved) _ _

/-- Settles O18: both commands are the same decision with the same use of its bit, and the same
checks; only the words differ. -/
theorem rdDecideEqMakesEvenDecision : Obligations.RdDecideEqMakesEvenDecision := by
  intro s hf hr
  refine ⟨fun hv hcan => ?_, ?_⟩
  · obtain ⟨t, b, ht, hdecision, hresult, hframe⟩ :=
      deciding_of_canDecide (prob := 128) hr (by decide) hcan .rdDecideEq bitWord
    exact ⟨t, b, (exec_rdDecideEq hf hv).trans ht, hdecision, by rw [hresult, bitWord_toNat],
      hframe⟩
  · cases hv : s.rdValid with
    | true =>
      rw [exec_rdDecideEq hf hv, exec_rdDecide hf hv]
      exact deciding_other_word hr (by decide) hf .rdDecideEq (.rdDecide 128#8) bitWord
    | false =>
      exact ⟨_, _, NeedsDecoder.rdDecideEq.exec_invalid rfl hf hv,
        (NeedsDecoder.rdDecide 128#8).exec_invalid rfl hf hv, rfl⟩

/-- Settles O19: as O17, with the operand's word negated by the bit. -/
theorem rdSignedSelectsSign : Obligations.RdSignedSelectsSign := by
  intro v s hf hv hr
  rw [exec_rdSigned hf hv, ← encode_rdSigned]
  refine ⟨fun hcan => ?_, fun hstarved => ?_⟩
  · obtain ⟨t, b, ht, hdecision, hresult, hframe⟩ :=
      deciding_of_canDecide (prob := 128) hr (by decide) hcan (.rdSigned v) (signedResult v)
    exact ⟨t, b, ht, hdecision, by rw [hresult, signedResult_toInt], hframe⟩
  · exact deciding_of_none (nextDecision_eq_none.2 hstarved) _ _

/-- Settles O20: the machine's run of decisions is the one on numbers. -/
theorem rdBitsAssemblesBits : Obligations.RdBitsAssemblesBits := by
  intro n s hn hf hv hr
  rw [exec_rdBits hn hf hv, ← encode_rdBits]
  refine ⟨fun bits c hmade => ?_, fun j bits c hj hmade hstarved => ?_⟩
  · obtain ⟨t, ht, hcoder, hresult, hframe⟩ := bitsCommand_of_some hr (.rdBits n) hmade
    refine ⟨t, ht, hcoder, ?_, hframe⟩
    rw [hresult]
    exact msbFirst_ofNat (decideMany_length hmade ▸ hn)
  · exact bitsCommand_of_starved hr _ hj hmade hstarved

/-- Settles O21: the decisions are all made (`decideMany_completes`), and RESULT holds as many
bits. -/
theorem rdBitsCompletesWithEnoughBytes : Obligations.RdBitsCompletesWithEnoughBytes := by
  intro n s hn hf hv hr henough
  obtain ⟨bits, c, hmade⟩ :=
    decideMany_completes (byte := Spec.windowByte s) (coder_fits hr) henough
  obtain ⟨t, ht, -, hresult, hframe⟩ := bitsCommand_of_some hr (.rdBits n) hmade
  have hlength := decideMany_length hmade
  refine ⟨t, (exec_rdBits hn hf hv).trans ht, (congrArg State.fault hframe).trans hf, ?_⟩
  rw [hresult, msbFirst_ofNat (hlength ▸ hn), ← hlength]
  exact msbFirst_lt bits

/-- Settles O24: the command makes the decision on numbers, which the branch-free update agrees
with but for its one exception. -/
theorem fastPathAgreesWithEvenDecision : Obligations.FastPathAgreesWithEvenDecision := by
  intro s hf hv hr hnonneg
  obtain ⟨t, b, ht, hdecision, hresult, -⟩ :=
    deciding_of_canDecide (prob := 128) hr (by decide) (.inl hnonneg) .rdDecideEq bitWord
  have hfilled : Spec.decideFilled 128 (Spec.coder s) = (b, Spec.coder t) := by
    rw [nextDecision, Spec.decideBit, if_neg (by exact not_lt.2 hnonneg)] at hdecision
    exact Option.some.inj hdecision
  have hbit : (Spec.decideFilled 128 (Spec.coder s)).1 = b := congrArg Prod.fst hfilled
  refine ⟨t, b, (exec_rdDecideEq hf hv).trans ht, by rw [hresult, bitWord_toNat],
    fun hagree => ?agree, fun ⟨hrange, hzero⟩ => ?exception⟩
  case agree =>
    rw [← hbit] at hagree
    exact (fastPath_eq_decideFilled (coder_fits hr) hagree).trans hfilled
  case exception =>
    obtain ⟨hdecided, hfast⟩ := even_decision_of_255 hrange (hbit.trans hzero)
    exact ⟨(congrArg Prod.snd hfilled).symm.trans hdecided, hfast⟩

/-- Settles O25: the last of the command's decisions leaves its numbers normalized. -/
theorem decisionLeavesRangeNormalized : Obligations.DecisionLeavesRangeNormalized := by
  intro i s t hdecisions hr _ hexec hfault
  have hne : probsOf i ≠ [] := List.ne_nil_of_length_pos ((length_probsOf i).symm ▸ hdecisions)
  have hdecides := decides_of_exec hr (by rintro rfl; exact hne rfl) (by rintro rfl; exact hne rfl)
    (by rintro rfl; exact hne rfl) hexec hfault
  have hnorm := hdecides.normalized (probsOf_le i) (coder_fits hr) hne
  exact ⟨hnorm.range_ge, hnorm.range_le, hnorm.count_ge⟩

/-- Settles O27: VALUE is the first byte, and INV says that it is below 255. -/
theorem initInvariantIffFirstByteNotFF : Obligations.InitInvariantIffFirstByteNotFF := by
  intro s hf hlen
  refine ⟨_, (rdInitLoadsFirstByte s hf).1 hlen, ?_⟩
  have hbyte : ((memRead s s.bsBase).setWidth 32).toNat = (memRead s s.bsBase).toNat :=
    BitVec.toNat_setWidth_of_le (by decide)
  have hlt := (memRead s s.bsBase).isLt
  rw [State.ValueInv, if_pos (by exact Int.le_refl 0)]
  change ((memRead s s.bsBase).setWidth 32).toNat < 255 * 2 ^ 0 ↔ _
  rw [hbyte, BitVec.toNat_ne]
  change _ ↔ _ ≠ 255
  omega

/-- Settles O28: the command's decisions are all equiprobable and all made. -/
theorem evenDecisionsConsumeOneBitEach : Obligations.EvenDecisionsConsumeOneBitEach := by
  intro i s t hi hr hle _ hexec hfault
  have heven : ∀ p ∈ probsOf i, p = 128 := by
    obtain rfl | ⟨v, rfl⟩ | ⟨n, rfl⟩ := hi
    · exact fun p => List.mem_singleton.1
    · exact fun p => List.mem_singleton.1
    · exact fun p => List.eq_of_mem_replicate
  have hdecides := decides_of_exec hr (by rintro rfl; simp at hi) (by rintro rfl; simp at hi)
    (by rintro rfl; simp at hi) hexec hfault
  rw [← length_probsOf]
  exact hdecides.even_bits heven (coder_fits hr) hle

/-- Settles O22: the checks pass, and the snapshot is written. -/
theorem rdSaveCopiesDecoder : Obligations.RdSaveCopiesDecoder :=
  fun _ hf hv => NeedsDecoder.rdSave.exec_ready rfl hf hv

/-- Settles O23: R76 after the checks. -/
theorem rdRestoreCopiesSnapshot : Obligations.RdRestoreCopiesSnapshot := by
  intro s hf
  rw [exec_rdRestore hf]
  refine ⟨fun hge => ?_, fun hlt => ?_⟩
  · rw [if_neg (Nat.not_lt.2 hge)]
    rfl
  · rw [if_pos hlt]
    rfl

end Sys2Proof.Proofs.RangeDecoder
end

section
/-!
PROOFS. The statements about the inverse transform (41_inverse_transform.md): the two passes are
those of the formulas on plain integers, and the laws of R95 and R96 follow from the formulas.
-/

namespace Sys2Proof.Proofs.InverseTransform

open Sys2Proof.Machine

/-! ### The matrices (41_inverse_transform.md R85, R86) -/

/-- The listing of R85, row by row, is the one its generating rule gives. -/
theorem tmRows_eq_generated :
    tmRows = (List.range 32).map fun k => (List.range 32).map (Spec.generatedTm k) :=
  rfl

theorem tm_eq_generatedTm {k n : Nat} (hk : k < 32) (hn : n < 32) :
    tm k n = Spec.generatedTm k n := by
  rw [tm, tmRows_eq_generated]
  simp [matEntry, List.getD, hk, hn]

theorem size_n_le (size : BlockSize) : size.n ≤ 32 := by
  cases size <;> decide

/-- The row step `32 / N` of R86. -/
theorem rowStep_eq (size : BlockSize) : 32 / size.n = 2 ^ (5 - size.log2) := by
  cases size <;> rfl

theorem n_mul_rowStep (size : BlockSize) : size.n * 2 ^ (5 - size.log2) = 32 := by
  cases size <;> rfl

/-- The rows of M_N are rows of TM, the last of them still inside TM. -/
theorem cosineMatrix_eq_generatedTm {size : BlockSize} {j i : Nat} (hj : j < size.n)
    (hi : i < size.n) :
    cosineMatrix size.n j i = Spec.generatedTm (j * 2 ^ (5 - size.log2)) i := by
  have hrow : j * 2 ^ (5 - size.log2) < 32 :=
    (Nat.mul_lt_mul_of_pos_right hj (by positivity)).trans_eq (n_mul_rowStep size)
  rw [cosineMatrix, rowStep_eq, tm_eq_generatedTm hrow (hi.trans_le (size_n_le size))]

/-- Row 0 of every M_N is all 64 (41_inverse_transform.md R95). -/
theorem cosineMatrix_row_zero {size : BlockSize} {i : Nat} (hi : i < size.n) :
    cosineMatrix size.n 0 i = 64 := by
  rw [cosineMatrix_eq_generatedTm (Nat.zero_lt_of_lt hi) hi, Nat.zero_mul]
  rfl

/-! ### The machine's values and the formulas on numbers -/

theorem bitDepth_eq_depthOf (s : State) (c : Component) : bitDepth s c = Spec.depthOf s c := by
  cases c <;> rfl

theorem clipCoeff_eq_clip (v : Int) : clipCoeff v = Spec.clip (-32768) 32767 v :=
  clip3_eq_max_min (by decide) v

/-- The column pass of the machine at (x, y) is pass 1 of R88. -/
theorem columnPass_eq {n : Nat} (m : Nat → Nat → Int) (d : Block) {x y : Nat} (hx : x < n)
    (hy : y < n) : gridAt (columnPass n m d) x y = Spec.columnPass n m d x y := by
  rw [columnPass_at n m d hx hy, clipCoeff_eq_clip, roundShift_eq, sumTo_eq_sum]
  rfl

/-- The row pass of the machine after its column pass is both passes of R88. -/
theorem rowPass_eq {n : Nat} (m : Nat → Nat → Int) (depth : Nat) (d : Block) {x y : Nat}
    (hy : y < n) :
    rowPass n m depth (columnPass n m d) x y = Spec.transform n m depth d x y := by
  have hsum : sumTo n (fun j => m j x * gridAt (columnPass n m d) j y) =
      sumTo n fun j => m j x * Spec.columnPass n m d j y :=
    sumTo_congr fun j hj => by rw [columnPass_eq m d hj hy]
  rw [rowPass, hsum, clipCoeff_eq_clip, roundShift_eq, sumTo_eq_sum]
  rfl

/-- The rotated coefficient, read as a signed number (41_inverse_transform.md R92). -/
theorem rotatedAt_toInt (n : Nat) (rot : Bool) (d : Block) (x y : Nat) :
    (rotatedAt n rot d x y).toInt = Spec.coefficient n rot d x y := by
  cases rot <;> rfl

/-- IT_SKIP's value is clipped, so it is stored whole. -/
theorem toInt_entryOf_skipValue (log2n depth : Nat) (v : Int) :
    (entryOf (skipValue log2n depth v)).toInt = skipValue log2n depth v :=
  toInt_entryOf_clipCoeff _

/-- IT_SKIP's value is R90's formula. -/
theorem skipValue_eq (log2n depth : Nat) (v : Int) :
    skipValue log2n depth v = Spec.clip (-32768) 32767
      ((v * 2 ^ (5 + log2n) + 2 ^ (20 - depth - 1)) / 2 ^ (20 - depth)) := by
  rw [skipValue, clipCoeff_eq_clip, roundShift_eq, shl_eq_mul]
  rfl

/-! ### The commands after their checks -/

section Ready

variable {s : State}

theorem exec_itDct (size : BlockSize) (c : Component) (hf : s.fault = 0#8) :
    exec (.itDct size c) s = .next
      (s.withRes (inverseTransform size.n (cosineMatrix size.n) (bitDepth s c) s.d s.res)) := by
  rw [exec, execItDct, checked_ready hf rfl]

theorem exec_itDst4 (c : Component) (hf : s.fault = 0#8) :
    exec (.itDst4 c) s = .next
      (s.withRes (inverseTransform 4 dst4 (bitDepth s c) s.d s.res)) := by
  rw [exec, execItDst4, checked_ready hf rfl]

theorem exec_itSkip {size : BlockSize} {c : Component} {rot : Bool}
    (hw : (Instr.itSkip size c rot).WellFormed) (hf : s.fault = 0#8) :
    exec (.itSkip size c rot) s = .next (s.withRes (s.res.corner size.n fun x y =>
      entryOf (skipValue size.log2 (bitDepth s c) (rotatedAt size.n rot s.d x y).toInt))) := by
  rw [exec, execItSkip, checked_ready hf hw]

theorem exec_itBypass {size : BlockSize} {c : Component} {rot : Bool}
    (hw : (Instr.itBypass size c rot).WellFormed) (hf : s.fault = 0#8) :
    exec (.itBypass size c rot) s =
      .next (s.withRes (s.res.corner size.n (rotatedAt size.n rot s.d))) := by
  rw [exec, execItBypass, checked_ready hf hw]

end Ready

/-! ### What a command of the unit writes -/

section Writes

variable {size : BlockSize} {s : State} {f : Nat → Nat → Int}

/-- RES written, entry by entry. -/
theorem transforms_withRes {b : Block}
    (h : ∀ x < 32, ∀ y < 32, b.signed x y =
      if x < size.n ∧ y < size.n then f x y else s.res.signed x y) :
    Spec.Transforms size s (s.withRes b) f :=
  ⟨rfl, h⟩

/-- A write of RES's corner with entries of the signed values `f` (41_inverse_transform.md R83). -/
theorem transforms_corner {g : Nat → Nat → Entry} (h : ∀ x y, (g x y).toInt = f x y) :
    Spec.Transforms size s (s.withRes (s.res.corner size.n g)) f := by
  refine transforms_withRes fun x hx y hy => ?_
  rw [Block.signed, Block.at_corner _ _ _ hx hy, apply_ite BitVec.toInt, h, Block.signed]

/-- Both passes of R88 with matrix `m`. -/
theorem transforms_inverseTransform (m : Nat → Nat → Int) (c : Component) :
    Spec.Transforms size s (s.withRes (inverseTransform size.n m (bitDepth s c) s.d s.res))
      (Spec.transform size.n m (Spec.depthOf s c) s.d) := by
  refine transforms_withRes fun x hx y hy => ?_
  rw [inverseTransform_at m _ s.d s.res hx hy, bitDepth_eq_depthOf]
  split_ifs with hin
  · exact rowPass_eq m _ s.d hin.2
  · rfl

/-- The residual of a command, inside its block. -/
theorem signedAt_res_of_transforms {t : State} (h : Spec.Transforms size s t f) {x y : Nat}
    (hx : x < size.n) (hy : y < size.n) : Spec.signedAt t.res x y = f x y := by
  obtain ⟨-, hentries⟩ := h
  have hle := size_n_le size
  rw [hentries x (hx.trans_le hle) y (hy.trans_le hle), if_pos ⟨hx, hy⟩]

end Writes

/-! ### A single coefficient (41_inverse_transform.md R95, R96) -/

/-- `d`'s N by N corner is 0 but for the entry (x0, y0). -/
def OnlyCoefficient (n : Nat) (d : Block) (x0 y0 : Nat) : Prop :=
  ∀ x < n, ∀ y < n, (x ≠ x0 ∨ y ≠ y0) → Spec.signedAt d x y = 0

section Single

variable {n : Nat} {d : Block} {x0 y0 : Nat}

/-- Pass 1 leaves column x0 alone non-zero, where it follows row y0 of the matrix. -/
theorem columnPass_single (h : OnlyCoefficient n d x0 y0) (hy0 : y0 < n) (m : Nat → Nat → Int)
    {x : Nat} (hx : x < n) (y : Nat) :
    Spec.columnPass n m d x y =
      if x = x0 then Spec.clip (-32768) 32767 ((m y0 y * Spec.signedAt d x0 y0 + 64) / 128)
      else 0 := by
  have hsum : ∑ j ∈ Finset.range n, m j y * Spec.signedAt d x j = m y0 y * Spec.signedAt d x y0 :=
    Finset.sum_eq_single_of_mem y0 (Finset.mem_range.2 hy0) fun j hj hne => by
      rw [h x hx j (Finset.mem_range.1 hj) (.inr hne), mul_zero]
  rw [Spec.columnPass, hsum]
  split_ifs with hx0
  · rw [hx0]
  · rw [h x hx y0 hy0 (.inl hx0), mul_zero]
    rfl

/-- Pass 2 then follows row x0 of the matrix along x. -/
theorem transform_single (h : OnlyCoefficient n d x0 y0) (hx0 : x0 < n) (hy0 : y0 < n)
    (m : Nat → Nat → Int) (depth x y : Nat) :
    Spec.transform n m depth d x y = Spec.clip (-32768) 32767
      ((m x0 x * Spec.clip (-32768) 32767 ((m y0 y * Spec.signedAt d x0 y0 + 64) / 128)
        + 2 ^ (20 - depth - 1)) / 2 ^ (20 - depth)) := by
  have hsum : ∑ j ∈ Finset.range n, m j x * Spec.columnPass n m d j y =
      m x0 x * Spec.columnPass n m d x0 y :=
    Finset.sum_eq_single_of_mem x0 (Finset.mem_range.2 hx0) fun j hj hne => by
      rw [columnPass_single h hy0 m (Finset.mem_range.1 hj) y, if_neg hne, mul_zero]
  rw [Spec.transform, hsum, columnPass_single h hy0 m hx0 y, if_pos rfl]

end Single

/-- The clip of pass 1 is not reached with the factor 64 of row 0. -/
theorem clip_dc (e : Entry) :
    Spec.clip (-32768) 32767 ((64 * e.toInt + 64) / 128) = (64 * e.toInt + 64) / 128 := by
  have hge : -2 ^ 15 ≤ e.toInt := BitVec.le_toInt e
  have hlt : e.toInt < 2 ^ 15 := BitVec.toInt_lt
  rw [Spec.clip]
  omega

/-! ### The obligations -/

/-- Settles O30: the checks pass, and the two passes are those on numbers. -/
theorem itDctTransformsBlock : Obligations.ItDctTransformsBlock :=
  fun size c _ hf => ⟨_, exec_itDct size c hf, transforms_inverseTransform _ c⟩

/-- Settles O31: as O30, with N = 4 and the matrix DST4. -/
theorem itDst4TransformsBlock : Obligations.ItDst4TransformsBlock :=
  fun c _ hf => ⟨_, exec_itDst4 c hf, transforms_inverseTransform (size := .n4) dst4 c⟩

/-- Settles O32: every entry of the corner is the clipped value of its coefficient. -/
theorem itSkipShiftsCoefficients : Obligations.ItSkipShiftsCoefficients := by
  intro size c rot s hw hf
  refine ⟨_, exec_itSkip hw hf, transforms_corner fun x y => ?_⟩
  rw [toInt_entryOf_skipValue, skipValue_eq, rotatedAt_toInt, bitDepth_eq_depthOf]

/-- Settles O33: every entry of the corner is its coefficient. -/
theorem itBypassCopiesCoefficients : Obligations.ItBypassCopiesCoefficients :=
  fun size _ rot s hw hf =>
    ⟨_, exec_itBypass hw hf, transforms_corner (rotatedAt_toInt size.n rot s.d)⟩

/-- Settles O34: IT_DCT's result is the transform of R88 (O30), here of a single coefficient. -/
theorem singleCoefficientFollowsBasis : Obligations.SingleCoefficientFollowsBasis := by
  intro size c s x0 y0 hf hx0 hy0 hsingle
  obtain ⟨t, ht, htransforms⟩ := itDctTransformsBlock size c s hf
  refine ⟨t, ht, fun x hx y hy => ?_⟩
  rw [signedAt_res_of_transforms htransforms hx hy]
  exact transform_single hsingle hx0 hy0 _ _ x y

/-- Settles O35: O34 at (0, 0), where both rows of the matrix are all 64. -/
theorem dcOnlyBlockIsUniform : Obligations.DcOnlyBlockIsUniform := by
  intro size c s hf hdc
  have hn : 0 < size.n := by cases size <;> decide
  obtain ⟨t, ht, hres⟩ := singleCoefficientFollowsBasis size c s 0 0 hf hn hn hdc
  refine ⟨t, _, ht, fun x hx y hy => ?_, rfl⟩
  rw [hres x hx y hy, cosineMatrix_row_zero hx, cosineMatrix_row_zero hy, Spec.signedAt, clip_dc]

/-- Settles O29: the listing is the generated one, and M_N takes its rows from it. -/
theorem cosineMatrixFollowsGeneratingRule : Obligations.CosineMatrixFollowsGeneratingRule :=
  ⟨fun _ hk _ hn => tm_eq_generatedTm hk hn,
    fun _ _ hj _ hi => cosineMatrix_eq_generatedTm hj hi, rfl⟩

end Sys2Proof.Proofs.InverseTransform
end

section
/-!
PROOFS. The formulas of intra prediction on plain integers (42_intra_prediction.md): each value is
a rounded mean of references inside REF[0..4N], so it stays between the least and the greatest of
them. The same bound, with 0 and 65535, says that every value fits its 16-bit entry.
-/

namespace Sys2Proof.Proofs.PredictionNumbers

open Sys2Proof.Machine

/-! ### Rounded means -/

section Means

variable {lo hi a b : Int}

/-- A sum with weights lies between the sum of the weights times `lo` and times `hi`. -/
theorem weighted_mem {v w : Int} (hv : 0 ≤ v) (hw : 0 ≤ w) (ha : a ∈ Set.Icc lo hi)
    (hb : b ∈ Set.Icc lo hi) :
    v * a + w * b ∈ Set.Icc ((v + w) * lo) ((v + w) * hi) := by
  rw [add_mul, add_mul]
  exact ⟨add_le_add (mul_le_mul_of_nonneg_left ha.1 hv) (mul_le_mul_of_nonneg_left hb.1 hw),
    add_le_add (mul_le_mul_of_nonneg_left ha.2 hv) (mul_le_mul_of_nonneg_left hb.2 hw)⟩

/-- Dividing such a sum by its total weight `d`, with a rounding term below `d`. -/
theorem rounded_mem {d c : Int} (hc : 0 ≤ c) (hcd : c < d)
    (ha : a ∈ Set.Icc (d * lo) (d * hi)) : (a + c) / d ∈ Set.Icc lo hi := by
  obtain ⟨hlo, hhi⟩ := ha
  have hd : 0 < d := hc.trans_lt hcd
  constructor
  · rw [Int.le_ediv_iff_mul_le hd, mul_comm]
    exact hlo.trans (le_add_of_nonneg_right hc)
  · rw [← Int.lt_add_one_iff, Int.ediv_lt_iff_lt_mul hd, mul_comm, mul_add, mul_one]
    exact add_lt_add_of_le_of_lt hhi hcd

/-- The rounded mean of two numbers with weights. -/
theorem mean_mem {v w c : Int} (hv : 0 ≤ v) (hw : 0 ≤ w) (hc : 0 ≤ c) (hcd : c < v + w)
    (ha : a ∈ Set.Icc lo hi) (hb : b ∈ Set.Icc lo hi) :
    (v * a + w * b + c) / (v + w) ∈ Set.Icc lo hi :=
  rounded_mem hc hcd (weighted_mem hv hw ha hb)

/-- A sum of `n` numbers lies between `n * lo` and `n * hi`. -/
theorem sum_mem {n : Nat} {f : Nat → Int} (h : ∀ i < n, f i ∈ Set.Icc lo hi) :
    ∑ i ∈ Finset.range n, f i ∈ Set.Icc (n * lo) (n * hi) := by
  constructor
  · simpa using Finset.card_nsmul_le_sum _ f lo fun i hi => (h i (Finset.mem_range.1 hi)).1
  · simpa using Finset.sum_le_card_nsmul _ f hi fun i hi => (h i (Finset.mem_range.1 hi)).2

end Means

/-! ### The references in use -/

/-- REF[0..4N] holds only values from `lo` to `hi`. -/
def RefsWithin (r : RefLine) (n : Nat) (lo hi : Int) : Prop :=
  ∀ k ≤ 4 * n, Spec.refVal r k ∈ Set.Icc lo hi

/-- A reference is an unsigned 16-bit number. -/
theorem refVal_mem (r : RefLine) (i : Nat) : Spec.refVal r i ∈ Set.Icc 0 65535 :=
  ⟨RefLine.sample_nonneg r i, RefLine.sample_le r i⟩

theorem refsWithin_entry (r : RefLine) (n : Nat) : RefsWithin r n 0 65535 :=
  fun k _ => refVal_mem r k

section Bounds

variable {r : RefLine} {size : BlockSize} {n x y : Nat} {lo hi : Int}

theorem left_mem (hr : RefsWithin r n lo hi) {z : Int} (hge : -1 ≤ z) (hlt : z < 2 * n) :
    Spec.left r n z ∈ Set.Icc lo hi :=
  hr _ (by omega)

theorem top_mem (hr : RefsWithin r n lo hi) {z : Int} (hge : -1 ≤ z) (hlt : z < 2 * n) :
    Spec.top r n z ∈ Set.Icc lo hi :=
  hr _ (by omega)

/-! ### Planar and DC -/

/-- The divisor `1 << (log2n + 1)` of planar and DC. -/
theorem two_pow_log2_succ (size : BlockSize) : (2 : Int) ^ (size.log2 + 1) = size.n + size.n := by
  cases size <;> rfl

/-- Planar is the mean of a mean along the row and one along the column. -/
theorem planar_mem (hr : RefsWithin r size.n lo hi) (hx : x < size.n) (hy : y < size.n) :
    Spec.planar size r x y ∈ Set.Icc lo hi := by
  obtain ⟨hrow, hrow'⟩ := weighted_mem (v := size.n - 1 - x) (w := x + 1) (by omega) (by omega)
    (left_mem hr (z := y) (by omega) (by omega)) (top_mem hr (z := size.n) (by omega) (by omega))
  obtain ⟨hcol, hcol'⟩ := weighted_mem (v := size.n - 1 - y) (w := y + 1) (by omega) (by omega)
    (top_mem hr (z := x) (by omega) (by omega)) (left_mem hr (z := size.n) (by omega) (by omega))
  rw [Spec.planar, two_pow_log2_succ]
  refine rounded_mem (by omega) (by omega) ⟨?_, ?_⟩ <;> linarith

theorem dcVal_mem (hr : RefsWithin r size.n lo hi) : Spec.dcVal size r ∈ Set.Icc lo hi := by
  have hn : 0 < size.n := by cases size <;> decide
  obtain ⟨htop, htop'⟩ := sum_mem fun x (hx : x < size.n) =>
    top_mem hr (z := x) (by omega) (by omega)
  obtain ⟨hleft, hleft'⟩ := sum_mem fun y (hy : y < size.n) =>
    left_mem hr (z := y) (by omega) (by omega)
  rw [Spec.dcVal, two_pow_log2_succ]
  refine rounded_mem (by omega) (by omega) ⟨?_, ?_⟩ <;> linarith

/-- DC with or without the edge correction. -/
theorem dcSample_mem (hr : RefsWithin r size.n lo hi) (edge : Bool) (hx : x < size.n)
    (hy : y < size.n) : Spec.dcSample size r edge x y ∈ Set.Icc lo hi := by
  obtain ⟨hdc, hdc'⟩ := dcVal_mem hr
  obtain ⟨htop, htop'⟩ := top_mem hr (z := x) (by omega) (by omega)
  obtain ⟨hleft, hleft'⟩ := left_mem hr (z := y) (by omega) (by omega)
  obtain ⟨htop₀, htop₀'⟩ := top_mem hr (z := 0) (by omega) (by omega)
  obtain ⟨hleft₀, hleft₀'⟩ := left_mem hr (z := 0) (by omega) (by omega)
  rw [Spec.dcSample]
  split_ifs <;> constructor <;> omega

end Bounds

/-! ### The tables of the angular modes (42_intra_prediction.md R110, R111) -/

/-- Settles O36: both tables are short lists. -/
theorem predictionTablesAsListed : Obligations.PredictionTablesAsListed := by
  unfold Obligations.PredictionTablesAsListed
  decide

/-- No angle exceeds one sample in each row or column. -/
theorem angle_mem (mode : Nat) : angle mode ∈ Set.Icc (-32) 32 := by
  have hlist : ∀ a ∈ angleList, a ∈ Set.Icc (-32 : Int) 32 := by decide
  rw [angle, List.getD_eq_getElem?_getD]
  cases h : angleList[mode - 2]? with
  | none => decide
  | some a => exact hlist a (List.mem_of_getElem? h)

/-- The modes with a negative angle are 11 to 25. -/
theorem mode_of_angle_neg {mode : Nat} (h : angle mode < 0) : 11 ≤ mode ∧ mode < 26 := by
  have hlist : ∀ k < 33, angleList.getD k 0 < 0 → 9 ≤ k ∧ k < 24 := by decide
  have hk : mode - 2 < 33 := by
    by_contra hge
    rw [angle, List.getD_eq_default _ _ (Nat.le_of_not_lt hge)] at h
    exact absurd h (by decide)
  have := hlist _ hk h
  omega

/-- INV_ANGLE is 8192 / ANGLE but for the rounding, so at most -256. -/
theorem invAngle_bounds {mode : Nat} (h : angle mode < 0) :
    invAngle mode ≤ -256 ∧ invAngle mode * angle mode ≤ 8208 := by
  obtain ⟨hge, hlt⟩ := mode_of_angle_neg h
  have hround := predictionTablesAsListed.2.2 mode hlt hge
  obtain ⟨ha, -⟩ := angle_mem mode
  refine ⟨?_, by omega⟩
  by_contra hinv
  have : invAngle mode * angle mode ≤ 255 * 32 := by nlinarith
  omega

/-! ### The reference array of the angular modes (42_intra_prediction.md R112, R115) -/

/-- Index `k` of the reference array lies inside REF[0..4N]: along the main side up to its end, or
projected onto the other side. -/
def InReach (n mode : Nat) (k : Int) : Prop :=
  k ≤ 2 * n ∧
    (k < 0 → 0 ≤ (k * invAngle mode + 128) / 256 ∧ (k * invAngle mode + 128) / 256 ≤ 2 * n)

section Angular

variable {r : RefLine} {size : BlockSize} {n mode along across x y : Nat} {lo hi k : Int}

/-- A negative index above `N * ANGLE / 32` is projected inside the other side. -/
theorem inReach_of_angle (htop : k ≤ 2 * n)
    (hneg : k < 0 → angle mode < 0 ∧ n * angle mode < 32 * k) : InReach n mode k := by
  refine ⟨htop, fun hk => ?_⟩
  obtain ⟨ha, hlow⟩ := hneg hk
  obtain ⟨hinv, hprod⟩ := invAngle_bounds ha
  have hge : 256 ≤ k * invAngle mode := by nlinarith
  have hle : 32 * (k * invAngle mode) ≤ n * 8208 :=
    calc 32 * (k * invAngle mode) = 32 * k * invAngle mode := by ring
      _ ≤ n * angle mode * invAngle mode :=
        mul_le_mul_of_nonpos_right hlow.le (by omega)
      _ = n * (invAngle mode * angle mode) := by ring
      _ ≤ n * 8208 := mul_le_mul_of_nonneg_left hprod (by omega)
  omega

/-- Both taps of the interpolation are in reach, the second where it is read. -/
theorem taps_inReach (mode : Nat) (halong : along < n) (hacross : across < n) :
    InReach n mode (along + (across + 1) * angle mode / 32 + 1) ∧
    ((across + 1) * angle mode % 32 ≠ 0 →
      InReach n mode (along + (across + 1) * angle mode / 32 + 2)) := by
  obtain ⟨ha, ha'⟩ := angle_mem mode
  have hupper : (across + 1) * angle mode ≤ n * 32 :=
    (mul_le_mul_of_nonneg_left ha' (by omega)).trans (by omega)
  have hlower : angle mode < 0 → n * angle mode ≤ (across + 1) * angle mode := fun h =>
    mul_le_mul_of_nonpos_right (by omega) h.le
  have hnonneg : 0 ≤ angle mode → 0 ≤ (across + 1) * angle mode := fun h => by positivity
  refine ⟨inReach_of_angle (by omega) fun hk => ?_,
    fun hfact => inReach_of_angle (by omega) fun hk => ?_⟩
  all_goals
    have hneg : angle mode < 0 := by omega
    have := hlower hneg
    exact ⟨hneg, by omega⟩

theorem verticalRef_mem (hr : RefsWithin r n lo hi) (hk : InReach n mode k) :
    Spec.verticalRef r n mode k ∈ Set.Icc lo hi := by
  obtain ⟨htop, hside⟩ := hk
  rw [Spec.verticalRef]
  split_ifs with hpos
  · exact top_mem hr (by omega) (by omega)
  · have := hside (by omega)
    exact left_mem hr (by omega) (by omega)

theorem horizontalRef_mem (hr : RefsWithin r n lo hi) (hk : InReach n mode k) :
    Spec.horizontalRef r n mode k ∈ Set.Icc lo hi := by
  obtain ⟨htop, hside⟩ := hk
  rw [Spec.horizontalRef]
  split_ifs with hpos
  · exact left_mem hr (by omega) (by omega)
  · have := hside (by omega)
    exact top_mem hr (by omega) (by omega)

/-! ### The angular sample (42_intra_prediction.md R113, R116) -/

/-- The interpolation is a mean of its two taps, or the first of them. -/
theorem interpolate_mem {ref : Int → Int} {d : Int}
    (hfirst : ref (along + d / 32 + 1) ∈ Set.Icc lo hi)
    (hsecond : d % 32 ≠ 0 → ref (along + d / 32 + 2) ∈ Set.Icc lo hi) :
    Spec.interpolate ref d along ∈ Set.Icc lo hi := by
  rw [Spec.interpolate]
  split_ifs with hfact
  · have hmean := mean_mem (v := 32 - d % 32) (w := d % 32) (c := 16) (by omega) (by omega)
      (by omega) (by omega) hfirst (hsecond hfact)
    rwa [sub_add_cancel] at hmean
  · exact hfirst

/-- The interpolation along a reference array that keeps to the bounds within its reach. -/
theorem interpolate_angle_mem {ref : Int → Int}
    (href : ∀ k, InReach n mode k → ref k ∈ Set.Icc lo hi)
    (halong : along < n) (hacross : across < n) :
    Spec.interpolate ref ((across + 1) * angle mode) along ∈ Set.Icc lo hi := by
  obtain ⟨hfirst, hsecond⟩ := taps_inReach mode halong hacross
  exact interpolate_mem (href _ hfirst) fun hfact => href _ (hsecond hfact)

/-- The angular sample before the boundary filters. -/
def unfiltered (size : BlockSize) (r : RefLine) (mode x y : Nat) : Int :=
  if 18 ≤ mode then
    Spec.interpolate (Spec.verticalRef r size.n mode) ((y + 1) * angle mode) x
  else Spec.interpolate (Spec.horizontalRef r size.n mode) ((x + 1) * angle mode) y

theorem unfiltered_mem (hr : RefsWithin r size.n lo hi) (mode : Nat) (hx : x < size.n)
    (hy : y < size.n) : unfiltered size r mode x y ∈ Set.Icc lo hi := by
  rw [unfiltered]
  split_ifs
  · exact interpolate_angle_mem (fun _ hk => verticalRef_mem hr hk) hx hy
  · exact interpolate_angle_mem (fun _ hk => horizontalRef_mem hr hk) hy hx

/-- Everything the angular sample can be: the interpolation, or the boundary filter of mode 10 or
26 on references in use (42_intra_prediction.md R114, R117). -/
theorem angular_cases (r : RefLine) (depth mode : Nat) (edge : Bool) (hx : x < size.n)
    (hy : y < size.n) :
    Spec.angular size r depth mode edge x y = unfiltered size r mode x y ∨
    edge = true ∧ (mode = 10 ∨ mode = 26) ∧
      ∃ i ≤ 4 * size.n, ∃ j ≤ 4 * size.n, ∃ k ≤ 4 * size.n,
        Spec.angular size r depth mode edge x y = Spec.clip 0 (2 ^ depth - 1)
          (Spec.refVal r i + (Spec.refVal r j - Spec.refVal r k) / 2) := by
  unfold Spec.angular unfiltered
  split_ifs with hvertical hfilter hfilter
  · exact .inr ⟨hfilter.2.1, .inr hfilter.1, _, by omega, _, by omega, _, by omega, rfl⟩
  · exact .inl rfl
  · exact .inr ⟨hfilter.2.1, .inl hfilter.1, _, by omega, _, by omega, _, by omega, rfl⟩
  · exact .inl rfl

end Angular

/-! ### Clipping to the sample range -/

/-- A clipped sample of at most 15 bits fits a 16-bit entry. -/
theorem clip_sample_mem {depth : Nat} (h : depth < 16) (v : Int) :
    Spec.clip 0 (2 ^ depth - 1) v ∈ Set.Icc 0 65535 := by
  have hlow : (1 : Int) ≤ 2 ^ depth := one_le_pow₀ (by norm_num)
  have hhigh : (2 : Int) ^ depth ≤ 2 ^ 15 := pow_le_pow_right₀ (by norm_num) (by omega)
  rw [Spec.clip]
  constructor <;> omega

theorem angular_entry_mem {size : BlockSize} {x y depth : Nat} (r : RefLine) (h : depth < 16)
    (mode : Nat) (edge : Bool) (hx : x < size.n) (hy : y < size.n) :
    Spec.angular size r depth mode edge x y ∈ Set.Icc 0 65535 := by
  rcases angular_cases r depth mode edge hx hy with heq | ⟨-, -, i, -, j, -, k, -, heq⟩
  · rw [heq]
    exact unfiltered_mem (refsWithin_entry r _) mode hx hy
  · rw [heq]
    exact clip_sample_mem h _

/-- On a flat reference the boundary filters give its value too. -/
theorem angular_flat {size : BlockSize} {r : RefLine} {x y depth : Nat} {v : Int}
    (hr : RefsWithin r size.n v v) (hv : v < 2 ^ depth) (mode : Nat) (edge : Bool)
    (hx : x < size.n) (hy : y < size.n) : Spec.angular size r depth mode edge x y = v := by
  have hflat : ∀ k ≤ 4 * size.n, Spec.refVal r k = v := fun k hk => by
    simpa using hr k hk
  rcases angular_cases r depth mode edge hx hy with heq | ⟨-, -, i, hi, j, hj, k, hk, heq⟩
  · rw [heq]
    simpa using unfiltered_mem hr mode hx hy
  · have hnonneg : 0 ≤ v := hflat i hi ▸ (refVal_mem r i).1
    rw [heq, hflat i hi, hflat j hj, hflat k hk, Spec.clip]
    omega

end Sys2Proof.Proofs.PredictionNumbers
end

section
/-!
PROOFS. What the substitution and the two smoothing filters leave in REF (42_intra_prediction.md
R100 to R104), sample by sample on plain integers.
-/

namespace Sys2Proof.Proofs.ReferenceLine

open Sys2Proof.Machine Sys2Proof.Proofs.PredictionNumbers

/-! ### The names of the samples (42_intra_prediction.md R99) -/

section Names

variable (r : RefLine)

theorem left_eq (n : Nat) (z : Int) : r.left n z = Spec.left r n z := rfl

theorem top_eq (n : Nat) (z : Int) : r.top n z = Spec.top r n z := rfl

/-- The corner ends the left column and begins the top row (42_intra_prediction.md R99). -/
theorem top_corner (n : Nat) : Spec.top r n (-1) = Spec.left r n (-1) := by
  unfold Spec.top Spec.left
  congr 2
  ring

end Names

/-! ### The scan of the substitution (42_intra_prediction.md R100) -/

section Scan

variable {l : List RefEntry} {gray prev : Entry} {i j : Nat}

/-- No sample is available from `j` up to, but not including, `k`. -/
def NoneAvailable (l : List RefEntry) (j k : Nat) : Prop :=
  ∀ m, j ≤ m → m < k → (l.getD m default).avail = false

/-- With nothing available up to `i` the scan still carries the value it began with. -/
theorem substScan_carries (hi : i < l.length) (hnone : NoneAvailable l 0 (i + 1)) :
    (substScan prev l).getD i default = ⟨true, prev⟩ := by
  induction l generalizing prev i with
  | nil => exact absurd hi (Nat.not_lt_zero i)
  | cons e es ih =>
    have he : e.avail = false := hnone 0 le_rfl (by omega)
    cases i with
    | zero => simp [substScan, he]
    | succ i =>
      have := ih (prev := prev) (by simpa using hi) fun m _ hm =>
        hnone (m + 1) (by omega) (by omega)
      simpa [substScan, he] using this

/-- After an available sample at `j`, with nothing available since, the scan carries its value. -/
theorem substScan_nearest (hi : i < l.length) (hji : j ≤ i)
    (havail : (l.getD j default).avail = true) (hnone : NoneAvailable l (j + 1) (i + 1)) :
    (substScan prev l).getD i default = ⟨true, (l.getD j default).val⟩ := by
  induction l generalizing prev i j with
  | nil => exact absurd hi (Nat.not_lt_zero i)
  | cons e es ih =>
    cases i with
    | zero =>
      obtain rfl : j = 0 := by omega
      have he : e.avail = true := havail
      simp [substScan, he]
    | succ i =>
      have hi' : i < es.length := by simpa using hi
      cases j with
      | zero =>
        have he : e.avail = true := havail
        have := substScan_carries (prev := e.val) hi' fun m _ hm =>
          hnone (m + 1) (by omega) (by omega)
        simpa [substScan, he] using this
      | succ j =>
        exact ih hi' (by omega) havail fun m hm hmi => hnone (m + 1) (by omega) (by omega)

/-- The scan carries only the value it began with and available ones. -/
theorem substScan_val_of {P : Entry → Prop} (hprev : P prev)
    (havail : ∀ e ∈ l, e.avail = true → P e.val) : ∀ e ∈ substScan prev l, P e.val := by
  induction l generalizing prev with
  | nil => simp [substScan]
  | cons e es ih =>
    have hcarried : P (if e.avail then e.val else prev) := by
      split_ifs with he
      · exact havail e List.mem_cons_self he
      · exact hprev
    intro a ha
    rcases List.mem_cons.1 ha with rfl | ha
    · exact hcarried
    · exact ih hcarried (fun b hb => havail b (List.mem_cons_of_mem e hb)) a ha

theorem getD_mem (hi : i < l.length) : l.getD i default ∈ l := by
  rw [List.getD_eq_getElem _ _ hi]
  exact List.getElem_mem hi

/-- With nothing available every sample becomes mid-gray. -/
theorem substituted_gray (hnone : NoneAvailable l 0 l.length) (hi : i < l.length) :
    (substituted gray l).getD i default = ⟨true, gray⟩ := by
  have hfind : l.find? (·.avail) = none := by
    rw [List.find?_eq_none]
    intro e he
    obtain ⟨m, hm, rfl⟩ := List.mem_iff_getElem.1 he
    simpa [hm] using hnone m (Nat.zero_le m) hm
  simp [substituted, hfind, hi]

/-- With sample `j` available the scan begins with the value of an available sample, and of none
after `j`. -/
theorem substituted_eq_substScan (hj : j < l.length) (havail : (l.getD j default).avail = true) :
    ∃ k ≤ j, (l.getD k default).avail = true ∧
      substituted gray l = substScan (l.getD k default).val l := by
  cases hfind : l.find? (·.avail) with
  | none =>
    rw [List.find?_eq_none] at hfind
    exact absurd havail (hfind _ (getD_mem hj))
  | some e =>
    obtain ⟨he, k, hk, rfl, hnone⟩ := List.find?_eq_some_iff_getElem.1 hfind
    have hkj : k ≤ j := by
      by_contra hlt
      rw [List.getD_eq_getElem _ _ hj] at havail
      simpa [havail] using hnone j (by omega)
    exact ⟨k, hkj, by simpa [hk] using he, by simp [substituted, hfind, hk]⟩

theorem substituted_avail (gray : Entry) (hi : i < l.length) :
    ((substituted gray l).getD i default).avail = true := by
  have hlen : i < (substituted gray l).length := by rwa [substituted_length]
  have hmem := getD_mem hlen
  unfold substituted at hmem ⊢
  split at hmem
  · obtain ⟨-, -, heq⟩ := List.mem_map.1 hmem
    rw [← heq]
  · exact substScan_avail _ _ _ hmem

end Scan

/-! ### REF after the substitution (42_intra_prediction.md R100) -/

section Line

variable {n depth i j : Nat} {r : RefLine}

/-- The samples in use as a list. -/
theorem used_getD (r : RefLine) (n : Nat) {k : Nat} (hk : k ≤ 4 * n) :
    (r.cells.take (4 * n + 1)).getD k default = r.get k := by
  rw [Buffer.get, List.getD_eq_getElem?_getD, List.getElem?_take_of_lt (by omega),
    List.getD_eq_getElem?_getD]

theorem used_length (r : RefLine) (hn : n ≤ 32) :
    (r.cells.take (4 * n + 1)).length = 4 * n + 1 := by
  rw [List.length_take, r.size]
  omega

theorem substLine_used (depth : Nat) (r : RefLine) (hn : n ≤ 32) (hi : i ≤ 4 * n) :
    (substLine n depth r).get i =
      (substituted (entryOf (midGray depth)) (r.cells.take (4 * n + 1))).getD i default := by
  rw [substLine_get n depth r (by omega), if_pos (by omega)]

theorem noneAvailable_used (r : RefLine) {n k : Nat} (hk : k ≤ 4 * n + 1)
    (h : ∀ m, j ≤ m → m < k → (r.get m).avail = false) :
    NoneAvailable (r.cells.take (4 * n + 1)) j k := by
  intro m hm hmk
  rw [used_getD r n (by omega)]
  exact h m hm hmk

theorem substLine_avail (depth : Nat) (r : RefLine) (hn : n ≤ 32) (hi : i ≤ 4 * n) :
    ((substLine n depth r).get i).avail = true := by
  rw [substLine_used depth r hn hi]
  exact substituted_avail _ (by rw [used_length r hn]; omega)

/-- With nothing available every sample becomes mid-gray. -/
theorem substLine_gray (hn : n ≤ 32) (hdepth : depth < 16) (hi : i ≤ 4 * n)
    (hnone : ∀ k ≤ 4 * n, (r.get k).avail = false) :
    Spec.refVal (substLine n depth r) i = 2 ^ (depth - 1) := by
  have hlen := used_length r hn
  have hused : NoneAvailable (r.cells.take (4 * n + 1)) 0 (4 * n + 1) :=
    noneAvailable_used r le_rfl fun m _ hm => hnone m (by omega)
  have hgray : (2 : Int) ^ (depth - 1) ≤ 2 ^ 15 := pow_le_pow_right₀ (by norm_num) (by omega)
  rw [Spec.refVal, substLine_used depth r hn hi,
    substituted_gray (by rwa [hlen]) (by omega), midGray_eq]
  exact toNat_entryOf (by positivity) (by omega)

/-- With REF[j] available the line is a scan that begins with the value of an available sample, and
of none after REF[j]. -/
theorem substLine_eq_substScan (depth : Nat) (hn : n ≤ 32) (hj : j ≤ 4 * n)
    (havail : (r.get j).avail = true) :
    ∃ k ≤ j, (r.get k).avail = true ∧ ∀ i ≤ 4 * n, (substLine n depth r).get i =
      (substScan (r.get k).val (r.cells.take (4 * n + 1))).getD i default := by
  have hlen := used_length r hn
  obtain ⟨k, hkj, hk, hscan⟩ :=
    substituted_eq_substScan (gray := entryOf (midGray depth)) (l := r.cells.take (4 * n + 1))
      (j := j) (by omega) (by rwa [used_getD r n hj])
  rw [used_getD r n (by omega)] at hk hscan
  exact ⟨k, hkj, hk, fun i hi => by rw [substLine_used depth r hn hi, hscan]⟩

/-- A sample takes the value of the nearest available one at or before it. -/
theorem substLine_nearest (depth : Nat) (hn : n ≤ 32) (hi : i ≤ 4 * n) (hji : j ≤ i)
    (havail : (r.get j).avail = true) (hnone : ∀ k ≤ i, j < k → (r.get k).avail = false) :
    (substLine n depth r).get i = ⟨true, (r.get j).val⟩ := by
  have hlen := used_length r hn
  obtain ⟨k, -, -, hscan⟩ := substLine_eq_substScan depth hn (hji.trans hi) havail
  rw [hscan i hi, substScan_nearest (j := j) (by omega) hji (by rwa [used_getD r n (by omega)])
    (noneAvailable_used r (by omega) fun m hm hmi => hnone m (by omega) (by omega)),
    used_getD r n (by omega)]

/-- The samples before the first available one take its value. -/
theorem substLine_first (depth : Nat) (hn : n ≤ 32) (hj : j ≤ 4 * n) (hij : i < j)
    (havail : (r.get j).avail = true) (hnone : ∀ k < j, (r.get k).avail = false) :
    (substLine n depth r).get i = ⟨true, (r.get j).val⟩ := by
  have hlen := used_length r hn
  obtain ⟨k, hkj, hk, hscan⟩ := substLine_eq_substScan depth hn hj havail
  obtain rfl : k = j := by
    by_contra hne
    simp [hnone k (by omega)] at hk
  rw [hscan i (by omega), substScan_carries (by omega)
    (noneAvailable_used r (by omega) fun m _ hm => hnone m (by omega))]

/-- With a sample available every value of the line is one of an available sample. -/
theorem substLine_val_of {P : Entry → Prop} (depth : Nat) (hn : n ≤ 32) (hj : j ≤ 4 * n)
    (havail : (r.get j).avail = true)
    (h : ∀ k ≤ 4 * n, (r.get k).avail = true → P (r.get k).val) (hi : i ≤ 4 * n) :
    P ((substLine n depth r).get i).val := by
  have hlen := used_length r hn
  obtain ⟨k, hkj, hk, hscan⟩ := substLine_eq_substScan depth hn hj havail
  rw [hscan i hi]
  refine substScan_val_of (h k (by omega) hk) (fun e he hav => ?_) _
    (getD_mem (by rw [substScan_length]; omega))
  obtain ⟨m, hm, rfl⟩ := List.mem_iff_getElem.1 he
  rw [← List.getD_eq_getElem _ default hm, used_getD r n (by omega)] at hav ⊢
  exact h m (by omega) hav

end Line

/-! ### REF after smoothing (42_intra_prediction.md R103, R104) -/

section Smoothing

variable {r : RefLine} {n i : Nat} {lo hi : Int}

/-- The value of REF[i] after the three-tap filter. -/
theorem refVal_threeTap (n : Nat) (r : RefLine) (h : i < 129) :
    Spec.refVal (threeTap n r) i =
      if 1 ≤ i ∧ i < 4 * n then
        (Spec.refVal r (i - 1) + 2 * Spec.refVal r i + Spec.refVal r (i + 1) + 2) / 4
      else Spec.refVal r i := by
  rw [Spec.refVal, threeTap_get n r h]
  split_ifs with hin
  · obtain ⟨h₀, h₀'⟩ := refVal_mem r (i - 1)
    obtain ⟨h₁, h₁'⟩ := refVal_mem r i
    obtain ⟨h₂, h₂'⟩ := refVal_mem r (i + 1)
    have hprev : r.sample (i - 1) = Spec.refVal r (i - 1) := by
      rw [RefLine.sample, Spec.refVal]
      congr 4
      omega
    have hnext : r.sample (i + 1) = Spec.refVal r (i + 1) := rfl
    have hself : r.sample i = Spec.refVal r i := rfl
    rw [hprev, hself, hnext]
    exact toNat_entryOf (by omega) (by omega)
  · rfl

theorem threeTap_within (hr : RefsWithin r n lo hi) (hn : n ≤ 32) :
    RefsWithin (threeTap n r) n lo hi := by
  intro k hk
  rw [refVal_threeTap n r (by omega)]
  split_ifs with hin
  · obtain ⟨h₀, h₀'⟩ := hr (k - 1) (by omega)
    obtain ⟨h₁, h₁'⟩ := hr k hk
    obtain ⟨h₂, h₂'⟩ := hr (k + 1) (by omega)
    constructor <;> omega
  · exact hr k hk

/-- The interpolation of R104 at distance `k` from the corner toward an end. -/
def interpolated (corner last k : Int) : Int := ((63 - k) * corner + (k + 1) * last + 32) / 64

theorem strongSample_eq (corner last k : Int) :
    strongSample corner last k = interpolated corner last k :=
  asr_eq_ediv _ _

theorem interpolated_mem {corner last k : Int} (hk : 0 ≤ k) (hk' : k < 63)
    (hcorner : corner ∈ Set.Icc lo hi) (hlast : last ∈ Set.Icc lo hi) :
    interpolated corner last k ∈ Set.Icc lo hi := by
  have hweights : (63 - k) + (k + 1) = 64 := by ring
  have hmean := mean_mem (v := 63 - k) (w := k + 1) (c := 32) (by omega) (by omega) (by omega)
    (by omega) hcorner hlast
  rwa [hweights] at hmean

/-- The value of REF[i] after the strong filter: on the left column, on the top row, or kept. -/
theorem refVal_strongFilter (r : RefLine) (h : i < 129) :
    Spec.refVal (strongFilter r) i =
      if 1 ≤ i ∧ i < 128 ∧ i ≠ 64 then
        if i < 64 then interpolated (Spec.left r 32 (-1)) (Spec.left r 32 63) (63 - i)
        else interpolated (Spec.left r 32 (-1)) (Spec.top r 32 63) (i - 65)
      else Spec.refVal r i := by
  have hentries := refsWithin_entry r 32
  rw [Spec.refVal, strongFilter_get r h]
  simp only [strongSample_eq, left_eq, top_eq, top_corner]
  split_ifs with hin hleft
  · obtain ⟨hge, hle⟩ := interpolated_mem (k := 63 - i) (by omega) (by omega)
      (left_mem hentries (z := -1) (by omega) (by omega))
      (left_mem hentries (z := 63) (by omega) (by omega))
    exact toNat_entryOf hge hle
  · obtain ⟨hge, hle⟩ := interpolated_mem (k := i - 65) (by omega) (by omega)
      (left_mem hentries (z := -1) (by omega) (by omega))
      (top_mem hentries (z := 63) (by omega) (by omega))
    exact toNat_entryOf hge hle
  · rfl

/-- The left column after the strong filter. -/
theorem left_strongFilter (r : RefLine) {y : Nat} (hy : y < 63) :
    Spec.left (strongFilter r) 32 y = interpolated (Spec.left r 32 (-1)) (Spec.left r 32 63) y := by
  have hindex : (2 * (32 : Nat) - 1 - (y : Int)).toNat = 63 - y := by omega
  have hdist : (63 : Int) - (63 - y : Nat) = y := by omega
  rw [Spec.left, hindex, refVal_strongFilter r (by omega), if_pos (by omega), if_pos (by omega),
    hdist]

/-- The top row after the strong filter. -/
theorem top_strongFilter (r : RefLine) {x : Nat} (hx : x < 63) :
    Spec.top (strongFilter r) 32 x = interpolated (Spec.left r 32 (-1)) (Spec.top r 32 63) x := by
  have hindex : (2 * (32 : Nat) + 1 + (x : Int)).toNat = 65 + x := by omega
  have hdist : ((65 + x : Nat) : Int) - 65 = x := by omega
  rw [Spec.top, hindex, refVal_strongFilter r (by omega), if_pos (by omega), if_neg (by omega),
    hdist]

theorem strongFilter_within (hr : RefsWithin r 32 lo hi) :
    RefsWithin (strongFilter r) 32 lo hi := by
  intro k hk
  rw [refVal_strongFilter r (by omega)]
  split_ifs
  · exact interpolated_mem (by omega) (by omega) (left_mem hr (by omega) (by omega))
      (left_mem hr (by omega) (by omega))
  · exact interpolated_mem (by omega) (by omega) (left_mem hr (by omega) (by omega))
      (top_mem hr (by omega) (by omega))
  · exact hr k hk

theorem threeTap_avail (n : Nat) (r : RefLine) (h : i < 129) :
    ((threeTap n r).get i).avail = (r.get i).avail := by
  rw [threeTap_get n r h]
  split_ifs <;> rfl

theorem strongFilter_avail (r : RefLine) (h : i < 129) :
    ((strongFilter r).get i).avail = (r.get i).avail := by
  rw [strongFilter_get r h]
  split_ifs <;> rfl

end Smoothing

end Sys2Proof.Proofs.ReferenceLine
end

section
/-!
PROOFS. The statements about intra prediction (42_intra_prediction.md): the commands of the unit
write the values of the formulas on plain integers, and the bounds of R120 follow from those of the
formulas.
-/

namespace Sys2Proof.Proofs.IntraPrediction

open Sys2Proof.Machine Sys2Proof.Proofs.PredictionNumbers Sys2Proof.Proofs.ReferenceLine
open Sys2Proof.Proofs.InverseTransform (size_n_le bitDepth_eq_depthOf)

/-! ### The commands after their checks -/

section Ready

variable {s : State}

theorem exec_ipSubst (size : BlockSize) (c : Component) (hf : s.fault = 0#8) :
    exec (.ipSubst size c) s =
      .next (s.withRef (substLine size.n (Spec.depthOf s c) s.ref)) := by
  rw [exec, execIpSubst, checked_ready hf rfl, bitDepth_eq_depthOf]

theorem exec_ipFilter {size : BlockSize} {c : Component} {mode : BitVec 6}
    (hw : (Instr.ipFilter size c mode).WellFormed) (hf : s.fault = 0#8) :
    exec (.ipFilter size c mode) s =
      if filterFlag size mode.toNat then
        if strongSelected s size c then .next ((s.withRef (strongFilter s.ref)).withIpFilt 2#2)
        else .next ((s.withRef (threeTap size.n s.ref)).withIpFilt 1#2)
      else .next (s.withIpFilt 0#2) := by
  rw [exec, execIpFilter, checked_ready hf hw]
  rfl

theorem exec_ipPlanar (size : BlockSize) (c : Component) (hf : s.fault = 0#8) :
    exec (.ipPlanar size c) s = .next (s.withPred (s.pred.corner size.n fun x y =>
      entryOf (planarValue size s.ref x y))) := by
  rw [exec, execIpPlanar, checked_ready hf rfl]

theorem exec_ipDc (size : BlockSize) (c : Component) (nf : Bool) (hf : s.fault = 0#8) :
    exec (.ipDc size c nf) s = .next (s.withPred (s.pred.corner size.n fun x y =>
      entryOf (if boundaryFiltered size c nf then dcEdge size.n s.ref (dcValue size s.ref) x y
        else dcValue size s.ref))) := by
  rw [exec, execIpDc, checked_ready hf rfl]

theorem exec_ipAng {size : BlockSize} {c : Component} {nf : Bool} {mode : BitVec 6}
    (hw : (Instr.ipAng size c nf mode).WellFormed) (hf : s.fault = 0#8) :
    exec (.ipAng size c nf mode) s = .next (s.withPred (s.pred.corner size.n fun x y =>
      entryOf (angularValue size c nf (Spec.depthOf s c) mode.toNat s.ref x y))) := by
  rw [exec, execIpAng, checked_ready hf hw, bitDepth_eq_depthOf]
  rfl

theorem exec_ipRecon (size : BlockSize) (c : Component) (hf : s.fault = 0#8) :
    exec (.ipRecon size c) s = .next (s.withOut (s.out.corner size.n fun x y =>
      entryOf (reconValue (Spec.depthOf s c) (s.pred.unsigned x y) (s.res.signed x y)))) := by
  rw [exec, execIpRecon, checked_ready hf rfl, bitDepth_eq_depthOf]

end Ready

theorem depthOf_lt (s : State) (c : Component) : Spec.depthOf s c < 16 := by
  cases c <;> exact BitVec.isLt _

/-! ### The machine's values and the formulas on numbers -/

section Values

variable (size : BlockSize) (c : Component) (nf : Bool) (r : RefLine) (x y : Nat)

theorem planarValue_eq : planarValue size r x y = Spec.planar size r x y :=
  asr_eq_ediv _ _

theorem dcValue_eq : dcValue size r = Spec.dcVal size r := by
  rw [dcValue, asr_eq_ediv, sumTo_eq_sum, sumTo_eq_sum]
  rfl

theorem boundaryFiltered_eq : boundaryFiltered size c nf = Spec.boundaryOn size c nf := by
  cases size <;> rfl

/-- The edge correction, at the corner, along the top row and along the left column. -/
theorem dcEdge_eq : dcEdge size.n r (Spec.dcVal size r) x y = Spec.dcSample size r true x y := by
  simp only [dcEdge, Spec.dcSample, asr_eq_ediv, true_and]
  rfl

theorem dcSample_eq :
    (if boundaryFiltered size c nf then dcEdge size.n r (dcValue size r) x y
      else dcValue size r) = Spec.dcSample size r (Spec.boundaryOn size c nf) x y := by
  rw [boundaryFiltered_eq, dcValue_eq, dcEdge_eq]
  cases Spec.boundaryOn size c nf
  · simp [Spec.dcSample]
  · rfl

theorem angularRef_vertical (mode : Nat) (n : Nat) :
    angularRef (r.top n) (r.left n) mode = Spec.verticalRef r n mode := by
  funext k
  rw [angularRef, asr_eq_ediv]
  rfl

theorem angularRef_horizontal (mode : Nat) (n : Nat) :
    angularRef (r.left n) (r.top n) mode = Spec.horizontalRef r n mode := by
  funext k
  rw [angularRef, asr_eq_ediv]
  rfl

theorem angularSample_eq (ref : Int → Int) (a : Int) (along across : Nat) :
    angularSample ref a along across = Spec.interpolate ref ((across + 1) * a) along := by
  simp only [angularSample, Spec.interpolate, asr_eq_ediv, and31]
  rfl

theorem clip3_sample_eq (depth : Nat) (v : Int) :
    clip3 0 (sampleMax depth) v = Spec.clip 0 (2 ^ depth - 1) v := by
  rw [clip3_eq_max_min (sampleMax_nonneg depth), sampleMax_eq, Spec.clip]

theorem reconValue_eq (depth : Nat) (pred res : Block) :
    reconValue depth (pred.unsigned x y) (res.signed x y) =
      Spec.clip 0 (2 ^ depth - 1) (Spec.unsignedAt pred x y + Spec.signedAt res x y) :=
  clip3_sample_eq _ _

theorem boundaryValue_eq (depth : Nat) (base step corner : Int) :
    boundaryValue depth base step corner =
      Spec.clip 0 (2 ^ depth - 1) (base + (step - corner) / 2) := by
  rw [boundaryValue, clip3_sample_eq, asr_eq_ediv, pow_one]

theorem angularValue_eq (depth mode : Nat) :
    angularValue size c nf depth mode r x y =
      Spec.angular size r depth mode (Spec.boundaryOn size c nf) x y := by
  simp only [angularValue, verticalValue, horizontalValue, boundaryValue_eq, angularSample_eq,
    angularRef_vertical, angularRef_horizontal, boundaryFiltered_eq, left_eq, top_eq, top_corner,
    Spec.angular]

end Values

/-! ### Which filter IP_FILTER applies (42_intra_prediction.md R101, R102, R105) -/

theorem filterFlag_iff (size : BlockSize) (mode : Nat) :
    filterFlag size mode = true ↔ Spec.Filters size mode := by
  have hthres : filterThres size = Spec.threshold size := by cases size <;> rfl
  rw [filterFlag, Spec.Filters, hthres, Int.abs_eq_natAbs, Int.abs_eq_natAbs]
  split_ifs with hoff
  · simp only [false_iff]
    tauto
  · simp only [decide_eq_true_eq]
    rw [not_or] at hoff
    simp only [ne_eq, hoff, not_false_eq_true, true_and]
    norm_cast

theorem strongSelected_iff (s : State) (size : BlockSize) (c : Component) :
    strongSelected s size c = true ↔ Spec.StrongChosen s size c := by
  simp only [strongSelected, smoothGradients, Spec.StrongChosen, shl_eq_mul, one_mul,
    Bool.and_eq_true, beq_iff_eq, decide_eq_true_eq, left_eq, top_eq, and_assoc]

section Filter

variable {size : BlockSize} {c : Component} {mode : BitVec 6} {s : State}

theorem size_of_strongChosen (h : Spec.StrongChosen s size c) : size = .n32 := by
  obtain ⟨-, -, hsize, -⟩ := h
  exact hsize

theorem exec_ipFilter_off (hw : (Instr.ipFilter size c mode).WellFormed) (hf : s.fault = 0#8)
    (hoff : ¬ Spec.Filters size mode.toNat) :
    exec (.ipFilter size c mode) s = .next (s.withIpFilt 0#2) := by
  rw [exec_ipFilter hw hf, if_neg (by rwa [filterFlag_iff])]

theorem exec_ipFilter_threeTap (hw : (Instr.ipFilter size c mode).WellFormed) (hf : s.fault = 0#8)
    (hon : Spec.Filters size mode.toNat) (hweak : ¬ Spec.StrongChosen s size c) :
    exec (.ipFilter size c mode) s =
      .next ((s.withRef (threeTap size.n s.ref)).withIpFilt 1#2) := by
  rw [exec_ipFilter hw hf, if_pos ((filterFlag_iff _ _).2 hon),
    if_neg (by rwa [strongSelected_iff])]

theorem exec_ipFilter_strong (hw : (Instr.ipFilter size c mode).WellFormed) (hf : s.fault = 0#8)
    (hon : Spec.Filters size mode.toNat) (hstrong : Spec.StrongChosen s size c) :
    exec (.ipFilter size c mode) s =
      .next ((s.withRef (strongFilter s.ref)).withIpFilt 2#2) := by
  rw [exec_ipFilter hw hf, if_pos ((filterFlag_iff _ _).2 hon),
    if_pos ((strongSelected_iff _ _ _).2 hstrong)]

end Filter

/-! ### What a command of the unit writes into a block buffer -/

section Writes

variable {size : BlockSize} {s t : State} {f : Nat → Nat → Int} {x y : Nat}

/-- A corner write of values that fit an unsigned entry. -/
theorem unsignedAt_corner (b : Block) {n : Nat}
    (hfits : ∀ x < n, ∀ y < n, f x y ∈ Set.Icc 0 65535) (hx : x < 32) (hy : y < 32) :
    Spec.unsignedAt (b.corner n fun x y => entryOf (f x y)) x y =
      if x < n ∧ y < n then f x y else Spec.unsignedAt b x y := by
  have hat := Block.at_corner b n (fun x y => entryOf (f x y)) hx hy
  rw [Spec.unsignedAt, ← Block.at, hat]
  split_ifs with hin
  · exact toNat_entryOf (hfits x hin.1 y hin.2).1 (hfits x hin.1 y hin.2).2
  · rfl

theorem predicts_corner (hfits : ∀ x < size.n, ∀ y < size.n, f x y ∈ Set.Icc 0 65535) :
    Spec.Predicts size s (s.withPred (s.pred.corner size.n fun x y => entryOf (f x y))) f :=
  ⟨rfl, fun _ hx _ hy => unsignedAt_corner s.pred hfits hx hy⟩

/-- The prediction of a command, inside its block. -/
theorem unsignedAt_pred_of_predicts {i : Instr}
    (hpred : ∃ t, exec i s = .next t ∧ Spec.Predicts size s t f) (h : exec i s = .next t)
    (hx : x < size.n) (hy : y < size.n) : Spec.unsignedAt t.pred x y = f x y := by
  obtain ⟨u, hu, -, hentries⟩ := hpred
  obtain rfl : t = u := by simpa [h] using hu
  have hle := size_n_le size
  rw [hentries x (hx.trans_le hle) y (hy.trans_le hle), if_pos ⟨hx, hy⟩]

end Writes

/-! ### The obligations -/

/-- Settles O37: the scan carries mid-gray, the nearest value before, or the first value. -/
theorem ipSubstPropagatesNearest : Obligations.IpSubstPropagatesNearest := by
  intro size c s hf
  have hn := size_n_le size
  refine ⟨_, exec_ipSubst size c hf, rfl, fun i hi hout => ?_, fun i hi =>
    ⟨substLine_avail _ s.ref hn hi, substLine_gray hn (depthOf_lt s c) hi,
      fun j hji havail hnone => ?_, fun j hj hij havail hnone => ?_⟩⟩
  · exact (substLine_get _ _ s.ref hi).trans (if_neg (by omega))
  · rw [Spec.refVal, State.withRef_ref, substLine_nearest _ hn hi hji havail hnone, Spec.refVal]
  · rw [Spec.refVal, State.withRef_ref, substLine_first _ hn hj hij havail hnone, Spec.refVal]

/-- Settles O38: with filterFlag = 0 only IP_FILT is written. -/
theorem ipFilterOffKeepsReferences : Obligations.IpFilterOffKeepsReferences :=
  fun _ _ _ _ hw hf hoff => exec_ipFilter_off hw hf hoff

/-- Settles O39: entry by entry. -/
theorem ipFilterThreeTapSmooths : Obligations.IpFilterThreeTapSmooths := by
  intro size c mode s hw hf hon hweak
  refine ⟨_, exec_ipFilter_threeTap hw hf hon hweak, rfl, fun i hi => ?_⟩
  exact ⟨threeTap_avail size.n s.ref hi, refVal_threeTap size.n s.ref hi⟩

/-- Settles O40: the corner and the two ends are outside the filter, every other sample is inside
it on its own side. -/
theorem ipFilterStrongInterpolates : Obligations.IpFilterStrongInterpolates := by
  intro size c mode s hw hf hon hstrong
  refine ⟨_, exec_ipFilter_strong hw hf hon hstrong, rfl, fun i hi => strongFilter_avail s.ref hi,
    refVal_strongFilter s.ref (i := 64) (by decide), refVal_strongFilter s.ref (i := 0) (by decide),
    refVal_strongFilter s.ref (i := 128) (by decide), fun y hy => left_strongFilter s.ref hy,
    fun x hx => top_strongFilter s.ref hx⟩

/-- Settles O41: the planar value is a mean of references, so it is stored whole. -/
theorem ipPlanarPredicts : Obligations.IpPlanarPredicts := by
  intro size c s hf
  refine ⟨_, exec_ipPlanar size c hf, ?_⟩
  simp only [planarValue_eq]
  exact predicts_corner fun x hx y hy => planar_mem (refsWithin_entry s.ref _) hx hy

/-- Settles O42: as O41, with the edge correction. -/
theorem ipDcPredicts : Obligations.IpDcPredicts := by
  intro size c nf s hf
  refine ⟨_, exec_ipDc size c nf hf, ?_⟩
  simp only [dcSample_eq]
  exact predicts_corner fun x hx y hy => dcSample_mem (refsWithin_entry s.ref _) _ hx hy

/-- Settles O43: an interpolated sample is a mean of references, a filtered one is clipped. -/
theorem ipAngPredicts : Obligations.IpAngPredicts := by
  intro size c nf mode s hw hf
  refine ⟨_, exec_ipAng hw hf, ?_⟩
  simp only [angularValue_eq]
  exact predicts_corner fun x hx y hy => angular_entry_mem s.ref (depthOf_lt s c) _ _ hx hy

/-- Settles O44: the clipped sum is stored whole. -/
theorem ipReconAddsAndClips : Obligations.IpReconAddsAndClips := by
  intro size c s hf
  refine ⟨_, exec_ipRecon size c hf, rfl, fun x hx y hy => ?_⟩
  simp only [State.withOut_out, reconValue_eq]
  exact unsignedAt_corner s.out (fun x _ y _ => clip_sample_mem (depthOf_lt s c) _) hx hy

/-- Settles O45: with both bounds equal to `v` every value is `v`; the boundary filters of modes 10
and 26 add a difference of 0. -/
theorem flatReferencePredictsFlat : Obligations.FlatReferencePredictsFlat := by
  intro i size c s t v hw hcommand hf hv hflat hexec x hx y hy
  have hr : RefsWithin s.ref size.n v v := fun k hk => by simp [hflat k hk]
  rcases hcommand with rfl | ⟨nf, rfl⟩ | ⟨nf, mode, rfl⟩
  · rw [unsignedAt_pred_of_predicts (ipPlanarPredicts size c s hf) hexec hx hy]
    simpa using planar_mem hr hx hy
  · rw [unsignedAt_pred_of_predicts (ipDcPredicts size c nf s hf) hexec hx hy]
    simpa using dcSample_mem hr _ hx hy
  · rw [unsignedAt_pred_of_predicts (ipAngPredicts size c nf mode s hw hf) hexec hx hy]
    exact angular_flat hr hv _ _ hx hy

/-- Settles O46: without the boundary filters every value is a rounded mean of references. -/
theorem predictionStaysWithinReferences : Obligations.PredictionStaysWithinReferences := by
  intro i size c s t lo hi hw hcommand hf hr hexec x hx y hy
  rcases hcommand with rfl | ⟨nf, rfl⟩ | ⟨nf, mode, rfl, hfilter⟩
  · rw [unsignedAt_pred_of_predicts (ipPlanarPredicts size c s hf) hexec hx hy]
    exact planar_mem hr hx hy
  · rw [unsignedAt_pred_of_predicts (ipDcPredicts size c nf s hf) hexec hx hy]
    exact dcSample_mem hr _ hx hy
  · rw [unsignedAt_pred_of_predicts (ipAngPredicts size c nf mode s hw hf) hexec hx hy]
    rcases angular_cases s.ref (Spec.depthOf s c) mode.toNat (Spec.boundaryOn size c nf) hx hy
      with heq | ⟨hedge, hmode, -⟩
    · rw [heq]
      exact unfiltered_mem hr _ hx hy
    · rcases hfilter with ⟨hne₁₀, hne₂₆⟩ | hoff
      · exact absurd hmode (by rintro (h | h) <;> bv_omega)
      · exact absurd hedge (by simp [hoff])

/-- Settles O47: the substitution copies available values, and both filters form rounded means. -/
theorem preparedReferencesStayWithinReferences :
    Obligations.PreparedReferencesStayWithinReferences := by
  intro size c mode s lo hi hf
  have hn := size_n_le size
  constructor
  · rintro ⟨j, hj, havail⟩ hwithin
    exact ⟨_, exec_ipSubst size c hf, fun k hk =>
      substLine_val_of (P := fun v => (v.toNat : Int) ∈ Set.Icc lo hi) _ hn hj havail hwithin hk⟩
  · intro hw hwithin
    by_cases hon : Spec.Filters size mode.toNat
    · by_cases hstrong : Spec.StrongChosen s size c
      · obtain rfl := size_of_strongChosen hstrong
        exact ⟨_, exec_ipFilter_strong hw hf hon hstrong, strongFilter_within hwithin⟩
      · exact ⟨_, exec_ipFilter_threeTap hw hf hon hstrong, threeTap_within hwithin hn⟩
    · exact ⟨_, exec_ipFilter_off hw hf hon, hwithin⟩

end Sys2Proof.Proofs.IntraPrediction
end

section
/-!
PROOFS. The statements about the system commands (43_system_commands.md).
-/

namespace Sys2Proof.Proofs.SystemCommands

open Sys2Proof.Machine

/-- SOFT_RESET makes no checks: it executes whether or not a fault is recorded
(60_exceptions.md R131). -/
theorem exec_softReset (s : State) : exec .softReset s = .next s.softReset := rfl

/-- Settles O12: NOP runs and has no effect, or is discarded because a fault is recorded, which is
the same. -/
theorem nopChangesNothing : Obligations.NopChangesNothing := by
  intro s
  rcases eq_or_ne s.fault 0#8 with hready | hfaulted
  · rw [exec, execNop, checked_ready hready rfl]
  · exact exec_faulted hfaulted Instr.noConfusion

/-- Settles O13: `State.softReset` writes the registers of R122's list and no buffer. -/
theorem softResetSetsRegisters : Obligations.SoftResetSetsRegisters :=
  fun s => exec_softReset s

end Sys2Proof.Proofs.SystemCommands
end

section
/-!
PROOFS. The statements about the fault record: what is discarded while a fault is recorded, and
what clears it (60_exceptions.md R131, R133).
-/

namespace Sys2Proof.Proofs.FaultRecord

open Sys2Proof.Machine
open Sys2Proof.Proofs.Encoding (decode_eq_ok_iff)
open Sys2Proof.Proofs.RegisterState (step_read step_write)
open Sys2Proof.Proofs.SystemCommands (exec_softReset)

variable {s t : State} {w data : Word} {index : RegIndex}
  {rest : List BusEvent}

/-! ### Commands -/

/-- SOFT_RESET's word (30_encoding.md R56). -/
theorem encode_softReset : encode .softReset = 0x7F000000#32 := rfl

theorem writeCommand_softReset (s : State) :
    writeCommand s 0x7F000000#32 = .next s.softReset := by
  rw [writeCommand_legal (decode_eq_ok_iff.2 ⟨rfl, encode_softReset⟩), exec_softReset]

/-- No word but SOFT_RESET's has an effect while a fault is recorded, legal or not. -/
theorem writeCommand_faulted (hf : s.fault ≠ 0#8) (hw : w ≠ 0x7F000000#32) :
    writeCommand s w = .next s := by
  cases hdecode : decode w with
  | ok i =>
    have hi : i ≠ .softReset := by
      rintro rfl
      exact hw (decode_eq_ok_iff.1 hdecode).2.symm
    rw [writeCommand_legal hdecode, exec_faulted hf hi]
  | error e => rw [writeCommand_illegal hdecode, if_pos (faulted_eq_true.2 hf)]

/-! ### Register accesses -/

/-- No host write to a register changes the fault record. -/
theorem writeReg_keeps_record (s : State) (data : Word) (r : Reg) :
    (writeReg s data r).fault = s.fault ∧ (writeReg s data r).faultInfo = s.faultInfo := by
  obtain ⟨-, -, -, -, hfault, hinfo, -⟩ := writeReg_frame s data r
  exact ⟨hfault, hinfo⟩

/-- A host write to a register does the same with FAULT = 0. -/
theorem writeReg_fault_zero (s : State) (data : Word) (r : Reg) :
    writeReg { s with fault := 0#8 } data r = { writeReg s data r with fault := 0#8 } := by
  calc writeReg (s.withFault 0#8 s.faultInfo) data r
    _ = (writeReg s data r).withFault 0#8 s.faultInfo := writeReg_withFault ..
    _ = (writeReg s data r).withFault 0#8 (writeReg s data r).faultInfo := by
      rw [(writeReg_keeps_record s data r).2]

/-- Of the registers the host reads, only STATUS shows FAULT. -/
theorem readReg_fault_zero {r : Reg} (hr : r ≠ .status) (s : State) :
    readReg { s with fault := 0#8 } r = readReg s r := by
  cases r with
  | status => exact absurd rfl hr
  | _ => rfl

/-- No index but 1 is STATUS (10_state.md R27). -/
theorem eq_one_of_regAt_eq_status (h : regAt index = .status) : index = 1#13 := by
  by_cases hlow : index.toNat < 0x00E
  · have hlist : ∀ i < 0x00E, lowRegs.getD i .reserved = .status → i = 1 := by decide
    rw [regAt_low (by omega)] at h
    exact BitVec.eq_of_toNat_eq (hlist _ hlow h)
  · simp only [regAt] at h
    split_ifs at h
    rw [← regAt_low ‹_›, regAt_unassigned (by omega) (by omega)] at h
    cases h

/-! ### One move of the environment -/

/-- The only moves that clear a recorded fault are SOFT_RESET and the hardware reset. -/
theorem busEvent_keeps_record {e : BusEvent} (hf : s.fault ≠ 0#8)
    (hsoft : e ≠ .write 0#13 0x7F000000#32) (hhard : e ≠ .hardReset)
    (h : busEvent s e = .next t) : t.fault = s.fault ∧ t.faultInfo = s.faultInfo := by
  cases e with
  | write index data =>
    change hostWrite s index data = .next t at h
    rcases eq_or_ne index 0#13 with rfl | hindex
    · have hdata : data ≠ 0x7F000000#32 := fun hd => hsoft (hd ▸ rfl)
      rw [hostWrite_cmd, writeCommand_faulted hf hdata] at h
      cases h
      exact ⟨rfl, rfl⟩
    · rw [hostWrite_other hindex] at h
      cases h
      exact writeReg_keeps_record s data _
  | read | memWrite =>
    cases h
    exact ⟨rfl, rfl⟩
  | hardReset => exact absurd rfl hhard

/-! ### A step while a fault is recorded -/

theorem step_command_faulted (hf : s.fault ≠ 0#8) (hb : s.bus = .write 0#13 w :: rest)
    (hw : w ≠ 0x7F000000#32) : step s = .next (s.withBus rest) := by
  rw [step_event hb]
  exact writeCommand_faulted hf hw

/-- A host write to a register other than CMD keeps the fault record and does the same with
FAULT = 0. -/
theorem step_write_ignores_record (hb : s.bus = .write index data :: rest) (hindex : index ≠ 0#13) :
    ∃ t, step s = .next t ∧ t.fault = s.fault ∧ t.faultInfo = s.faultInfo ∧
      step { s with fault := 0#8 } = .next { t with fault := 0#8 } := by
  have hcmd : regAt index ≠ .cmd := mt regAt_eq_cmd.1 hindex
  obtain ⟨hfault, hinfo⟩ := writeReg_keeps_record (s.withBus rest) data (regAt index)
  refine ⟨_, step_write hb rfl hcmd, hfault, hinfo, ?_⟩
  rw [← writeReg_fault_zero]
  exact step_write (s := { s with fault := 0#8 }) hb rfl hcmd

/-- With FAULT = 0 a host read of a register other than STATUS puts the same word on the data
lines. -/
theorem step_read_fault_zero (hb : s.bus = .read index :: rest) (hindex : index ≠ 1#13) :
    step { s with fault := 0#8 } =
      .next { s with fault := 0#8, bus := rest, hostData := readReg s (regAt index) } := by
  rw [← readReg_fault_zero (mt eq_one_of_regAt_eq_status hindex) s]
  exact step_read (s := { s with fault := 0#8 }) hb

/-! ### The obligations -/

/-- Settles O8: a command is discarded, and the other accesses do not depend on FAULT, but for a
read of STATUS. -/
theorem recordedFaultDiscardsCommands : Obligations.RecordedFaultDiscardsCommands :=
  fun s rest hf =>
    ⟨fun w hw => step_command_faulted (s := { s with bus := .write 0#13 w :: rest }) hf rfl hw,
     fun index data hindex =>
      step_write_ignores_record (s := { s with bus := .write index data :: rest }) rfl hindex,
     fun index =>
      ⟨_, step_read (s := { s with bus := .read index :: rest }) rfl,
        step_read_fault_zero (s := { s with bus := .read index :: rest }) rfl⟩⟩

/-- Settles O9: by the move at the head of the queue, of which `busEvent_keeps_record` leaves the
two resets. -/
theorem faultClearedOnlyByReset : Obligations.FaultClearedOnlyByReset := by
  intro s t hstep hf
  cases hb : s.bus with
  | nil =>
    rw [step_idle hb] at hstep
    cases hstep
    exact ⟨rfl, rfl⟩
  | cons e rest =>
    rw [step_event hb] at hstep
    simp only [List.head?_cons, Option.some.injEq]
    split_ifs with hsoft hhard
    · subst hsoft
      cases hstep.symm.trans (writeCommand_softReset (s.withBus rest))
      exact ⟨rfl, rfl, rfl, rfl, rfl, rfl, rfl⟩
    · subst hhard
      cases hstep
      exact ⟨rfl, rfl⟩
    · exact busEvent_keeps_record (s := s.withBus rest) hf hsoft hhard hstep

end Sys2Proof.Proofs.FaultRecord
end

section
/-!
PROOFS. The statement about the state after a hardware reset (70_reset_and_hazards.md R143).
-/

namespace Sys2Proof.Proofs.ResetState

open Sys2Proof.Machine

/-- COUNT is a signed four-bit register, and its reset value is the least one it holds
(10_state.md R30). -/
theorem reset_count_toInt : State.reset.count.toInt = -8 := by decide

/-- Settles O15, row by row: every register but COUNT is compared as the bit pattern
`State.reset` gives it. -/
theorem resetStateHoldsResetValues : Obligations.ResetStateHoldsResetValues :=
  ⟨rfl, rfl, rfl, rfl, rfl, rfl, rfl, rfl, rfl, rfl, rfl, rfl, rfl, reset_count_toInt,
    rfl, rfl, rfl⟩

end Sys2Proof.Proofs.ResetState
end

section
/-!
PROOFS. The statement about a command term that breaks a field limit (30_encoding.md R56, R57):
the limits that the operands' types leave open are those of five commands, and the decoder and the
checks before a command (60_exceptions.md R132) both refuse what breaks them.
-/

namespace Sys2Proof.Proofs.IllFormedCommand

open Sys2Proof.Machine
open Sys2Proof.Proofs.Encoding (formatB_wordB formatI_wordI formatT_wordT opcodeOf_wordB
  opcodeOf_wordI opcodeOf_wordT)

variable {i : Instr} {s : State}

theorem limited_of_broken {ok : Bool} (hok : ok = false) (i : Instr) :
    limited ok i = .error .fieldLimit := by
  rw [limited, hok]
  rfl

/-- The encoder writes 0 in every reserved bit and a legal block size, so the arm of the word's
opcode comes as far as the limit of its row, which is the command's own. -/
theorem decode_encode_of_illFormed (hw : i.wf = false) :
    decode (encode i) = .error .fieldLimit := by
  rw [decode]
  cases i with
  | rdBits =>
    rw [encode, opcodeOf_wordB]
    exact (formatB_wordB _ _ _).trans (limited_of_broken hw _)
  | itSkip | itBypass =>
    rw [encode, opcodeOf_wordT]
    exact (formatT_wordT _ _ _ _ _).trans (limited_of_broken hw _)
  | ipFilter | ipAng =>
    rw [encode, opcodeOf_wordI]
    exact (formatI_wordI _ _ _ _ _ _).trans (limited_of_broken hw _)
  | _ => exact nomatch hw

/-- Each command with a field limit makes the checks, whatever its effect. -/
theorem exec_of_illFormed (hw : i.wf = false) (hf : s.fault = 0#8) :
    exec i s = .next (s.raise .illegalCommand (encode i)) := by
  cases i with
  | rdBits | itSkip | itBypass | ipFilter | ipAng =>
    simp only [exec, execRdBits, execItSkip, execItBypass, execIpFilter, execIpAng,
      checked_illFormed hf hw]
  | _ => exact nomatch hw

/-- Settles O5: the decoder and the checks refuse the command by the same limit. -/
theorem illFormedCommandIsIllegal : Obligations.IllFormedCommandIsIllegal :=
  fun _ _ hw hf => ⟨decode_encode_of_illFormed hw, exec_of_illFormed hw hf⟩

end Sys2Proof.Proofs.IllFormedCommand
end

section
/-!
PROOFS. The statements about the moves that do not come from the host: a write to the bitstream
memory by another master (20_memory.md R46), and the hardware reset (70_reset_and_hazards.md R142
to R144).
-/

namespace Sys2Proof.Proofs.EnvironmentMoves

open Sys2Proof.Machine

variable {s : State} {a : BitVec 32} {b : Byte} {rest : List BusEvent}

/-- A pending write by another master completes and stores its byte. -/
theorem step_memWrite (hb : s.bus = .memWrite a b :: rest) :
    step s = .next ((s.withBus rest).withMemByte a b) :=
  step_event hb

/-- A pending hardware reset completes. -/
theorem step_hardReset (hb : s.bus = .hardReset :: rest) :
    step s = .next (s.withBus rest).hardReset :=
  step_event hb

/-- Reading the bitstream memory after one byte of it was written. The canonical form is needed for
a byte equal to `unlistedByte`, which is stored by taking its address off the list. -/
theorem memRead_withMemByte (hm : Memory.wf s.mem = true) (a : BitVec 32) (b : Byte)
    (a' : BitVec 32) :
    memRead (s.withMemByte a b) a' = if a' = a then b else memRead s a' := by
  split
  next hsame =>
    subst hsame
    exact memGet_memPut_same a'.toNat b hm
  next hother => exact memGet_memPut_other (mt BitVec.eq_of_toNat_eq hother) b s.mem

/-- Settles O53: the move replaces `mem` alone, and the new memory is read by
`memRead_withMemByte`. -/
theorem otherMasterWritesOneByte : Obligations.OtherMasterWritesOneByte :=
  fun s a b rest hm hb =>
    ⟨_, step_memWrite hb, rfl, memRead_withMemByte (s := s.withBus rest) hm a b⟩

/-- Settles O14: `State.hardReset` gives every register its value of R143's table, and of the
other fields writes only the buffers and the count of resets. -/
theorem hardResetSetsRegisters : Obligations.HardResetSetsRegisters :=
  fun _ _ hb => ⟨_, step_hardReset hb, rfl⟩

end Sys2Proof.Proofs.EnvironmentMoves
end
